-- ==== Sys2Proof/Word.lean ====
section
/-! DEFINITION. The two word types of the machine (00_scope R9): 8-bit registers and memory cells, 16-bit
pairs, addresses, program counter and stack pointer. -/

namespace Sys2Proof

/-- An 8-bit register or one memory cell (00_scope R9). -/
abbrev Byte := BitVec 8

/-- A register pair, an address, `SP` or `PC` (00_scope R9). -/
abbrev Word := BitVec 16

end Sys2Proof
end

