-- ==== Sys2Proof/Machine/Bits.lean ====
section
/-! DEFINITION. Bit fields, concatenation and sign extension (00_scope R14 to R16). -/

namespace Sys2Proof.Machine

/-- `hi ++ lo`: the 16-bit value with high byte `hi` (00_scope R15; 10_state R32). -/
def pairOf (hi lo : Byte) : Word := hi ++ lo

/-- `w[15:8]`. -/
def hiByte (w : Word) : Byte := w.extractLsb' 8 8

/-- `w[7:0]`. -/
def loByte (w : Word) : Byte := w.extractLsb' 0 8

/-- `v[3:0]` as a number, of a byte. -/
def lowNibble (v : Byte) : Nat := v.toNat % 16

/-- `sext_16(v)` (00_scope R16; 30_encoding R175). -/
def sext16 (v : Byte) : Word := v.signExtend 16

/-- `0xFF00 + zext_16(n)`: the high-page address of `n` (30_encoding R177). -/
def highPage (n : Byte) : Word := 0xFF00#16 + n.zeroExtend 16

/-- One bit as a byte: 0 or 1. -/
def bitByte (b : Bool) : Byte := if b then 1#8 else 0#8

end Sys2Proof.Machine
end

