-- ==== Sys2Proof/Syntax.lean ====
section
/-! DEFINITION. The instruction set: one constructor per row of spec/opcode_table.json: first
the instructions that carry an operand, then the rest of the base page, then the CB page, each in opcode order (30_encoding
R178 to R181). An operand byte or word the instruction carries is the constructor's argument;
every other operand is part of the constructor. `Instr.form` (Machine/Forms.lean) gives the generic form of each. -/

namespace Sys2Proof

/-- One constructor per row of the opcode table; each docstring gives the row's mnemonic as the spec's text writes it and its rule. -/
inductive Instr where
  /-- `LD BC,nn` (R240) -/
  | ldBcNn (nn : Word)
  /-- `LD B,n` (R201) -/
  | ldBN (n : Byte)
  /-- `LD (nn),SP` (R241) -/
  | ldMemNnSp (nn : Word)
  /-- `LD C,n` (R201) -/
  | ldCN (n : Byte)
  /-- `STOP` (R372) -/
  | stop (n : Byte)
  /-- `LD DE,nn` (R240) -/
  | ldDeNn (nn : Word)
  /-- `LD D,n` (R201) -/
  | ldDN (n : Byte)
  /-- `JR e` (R344) -/
  | jrE (e : Byte)
  /-- `LD E,n` (R201) -/
  | ldEN (n : Byte)
  /-- `JR NZ,e` (R345) -/
  | jrNzE (e : Byte)
  /-- `LD HL,nn` (R240) -/
  | ldHlNn (nn : Word)
  /-- `LD H,n` (R201) -/
  | ldHN (n : Byte)
  /-- `JR Z,e` (R345) -/
  | jrZE (e : Byte)
  /-- `LD L,n` (R201) -/
  | ldLN (n : Byte)
  /-- `JR NC,e` (R345) -/
  | jrNcE (e : Byte)
  /-- `LD SP,nn` (R240) -/
  | ldSpNn (nn : Word)
  /-- `LD (HL),n` (R204) -/
  | ldMemHlN (n : Byte)
  /-- `JR C,e` (R345) -/
  | jrCE (e : Byte)
  /-- `LD A,n` (R201) -/
  | ldAN (n : Byte)
  /-- `JP NZ,nn` (R342) -/
  | jpNzNn (nn : Word)
  /-- `JP nn` (R341) -/
  | jpNn (nn : Word)
  /-- `CALL NZ,nn` (R347) -/
  | callNzNn (nn : Word)
  /-- `ADD A,n` (R261) -/
  | addAN (n : Byte)
  /-- `JP Z,nn` (R342) -/
  | jpZNn (nn : Word)
  /-- `CALL Z,nn` (R347) -/
  | callZNn (nn : Word)
  /-- `CALL nn` (R346) -/
  | callNn (nn : Word)
  /-- `ADC A,n` (R262) -/
  | adcAN (n : Byte)
  /-- `JP NC,nn` (R342) -/
  | jpNcNn (nn : Word)
  /-- `CALL NC,nn` (R347) -/
  | callNcNn (nn : Word)
  /-- `SUB n` (R263) -/
  | subN (n : Byte)
  /-- `JP C,nn` (R342) -/
  | jpCNn (nn : Word)
  /-- `CALL C,nn` (R347) -/
  | callCNn (nn : Word)
  /-- `SBC A,n` (R264) -/
  | sbcAN (n : Byte)
  /-- `LDH (n),A` (R214) -/
  | ldhMemNA (n : Byte)
  /-- `AND n` (R265) -/
  | andN (n : Byte)
  /-- `ADD SP,e` (R303) -/
  | addSpE (e : Byte)
  /-- `LD (nn),A` (R210) -/
  | ldMemNnA (nn : Word)
  /-- `XOR n` (R266) -/
  | xorN (n : Byte)
  /-- `LDH A,(n)` (R213) -/
  | ldhAMemN (n : Byte)
  /-- `OR n` (R267) -/
  | orN (n : Byte)
  /-- `LD HL,SP+e` (R243) -/
  | ldHlSpE (e : Byte)
  /-- `LD A,(nn)` (R209) -/
  | ldAMemNn (nn : Word)
  /-- `CP n` (R268) -/
  | cpN (n : Byte)
  /-- `NOP` (R370) -/
  | nop
  /-- `LD (BC),A` (R207) -/
  | ldMemBcA
  /-- `INC BC` (R301) -/
  | incBc
  /-- `INC B` (R269) -/
  | incB
  /-- `DEC B` (R271) -/
  | decB
  /-- `RLCA` (R310) -/
  | rlca
  /-- `ADD HL,BC` (R300) -/
  | addHlBc
  /-- `LD A,(BC)` (R205) -/
  | ldAMemBc
  /-- `DEC BC` (R302) -/
  | decBc
  /-- `INC C` (R269) -/
  | incC
  /-- `DEC C` (R271) -/
  | decC
  /-- `RRCA` (R311) -/
  | rrca
  /-- `LD (DE),A` (R208) -/
  | ldMemDeA
  /-- `INC DE` (R301) -/
  | incDe
  /-- `INC D` (R269) -/
  | incD
  /-- `DEC D` (R271) -/
  | decD
  /-- `RLA` (R312) -/
  | rla
  /-- `ADD HL,DE` (R300) -/
  | addHlDe
  /-- `LD A,(DE)` (R206) -/
  | ldAMemDe
  /-- `DEC DE` (R302) -/
  | decDe
  /-- `INC E` (R269) -/
  | incE
  /-- `DEC E` (R271) -/
  | decE
  /-- `RRA` (R313) -/
  | rra
  /-- `LD (HL+),A` (R218) -/
  | ldMemHlIncA
  /-- `INC HL` (R301) -/
  | incHl
  /-- `INC H` (R269) -/
  | incH
  /-- `DEC H` (R271) -/
  | decH
  /-- `DAA` (R273) -/
  | daa
  /-- `ADD HL,HL` (R300) -/
  | addHlHl
  /-- `LD A,(HL+)` (R217) -/
  | ldAMemHlInc
  /-- `DEC HL` (R302) -/
  | decHl
  /-- `INC L` (R269) -/
  | incL
  /-- `DEC L` (R271) -/
  | decL
  /-- `CPL` (R274) -/
  | cpl
  /-- `LD (HL-),A` (R216) -/
  | ldMemHlDecA
  /-- `INC SP` (R301) -/
  | incSp
  /-- `INC (HL)` (R270) -/
  | incMemHl
  /-- `DEC (HL)` (R272) -/
  | decMemHl
  /-- `SCF` (R275) -/
  | scf
  /-- `ADD HL,SP` (R300) -/
  | addHlSp
  /-- `LD A,(HL-)` (R215) -/
  | ldAMemHlDec
  /-- `DEC SP` (R302) -/
  | decSp
  /-- `INC A` (R269) -/
  | incA
  /-- `DEC A` (R271) -/
  | decA
  /-- `CCF` (R276) -/
  | ccf
  /-- `LD B,B` (R200) -/
  | ldBB
  /-- `LD B,C` (R200) -/
  | ldBC
  /-- `LD B,D` (R200) -/
  | ldBD
  /-- `LD B,E` (R200) -/
  | ldBE
  /-- `LD B,H` (R200) -/
  | ldBH
  /-- `LD B,L` (R200) -/
  | ldBL
  /-- `LD B,(HL)` (R202) -/
  | ldBMemHl
  /-- `LD B,A` (R200) -/
  | ldBA
  /-- `LD C,B` (R200) -/
  | ldCB
  /-- `LD C,C` (R200) -/
  | ldCC
  /-- `LD C,D` (R200) -/
  | ldCD
  /-- `LD C,E` (R200) -/
  | ldCE
  /-- `LD C,H` (R200) -/
  | ldCH
  /-- `LD C,L` (R200) -/
  | ldCL
  /-- `LD C,(HL)` (R202) -/
  | ldCMemHl
  /-- `LD C,A` (R200) -/
  | ldCA
  /-- `LD D,B` (R200) -/
  | ldDB
  /-- `LD D,C` (R200) -/
  | ldDC
  /-- `LD D,D` (R200) -/
  | ldDD
  /-- `LD D,E` (R200) -/
  | ldDE
  /-- `LD D,H` (R200) -/
  | ldDH
  /-- `LD D,L` (R200) -/
  | ldDL
  /-- `LD D,(HL)` (R202) -/
  | ldDMemHl
  /-- `LD D,A` (R200) -/
  | ldDA
  /-- `LD E,B` (R200) -/
  | ldEB
  /-- `LD E,C` (R200) -/
  | ldEC
  /-- `LD E,D` (R200) -/
  | ldED
  /-- `LD E,E` (R200) -/
  | ldEE
  /-- `LD E,H` (R200) -/
  | ldEH
  /-- `LD E,L` (R200) -/
  | ldEL
  /-- `LD E,(HL)` (R202) -/
  | ldEMemHl
  /-- `LD E,A` (R200) -/
  | ldEA
  /-- `LD H,B` (R200) -/
  | ldHB
  /-- `LD H,C` (R200) -/
  | ldHC
  /-- `LD H,D` (R200) -/
  | ldHD
  /-- `LD H,E` (R200) -/
  | ldHE
  /-- `LD H,H` (R200) -/
  | ldHH
  /-- `LD H,L` (R200) -/
  | ldHL
  /-- `LD H,(HL)` (R202) -/
  | ldHMemHl
  /-- `LD H,A` (R200) -/
  | ldHA
  /-- `LD L,B` (R200) -/
  | ldLB
  /-- `LD L,C` (R200) -/
  | ldLC
  /-- `LD L,D` (R200) -/
  | ldLD
  /-- `LD L,E` (R200) -/
  | ldLE
  /-- `LD L,H` (R200) -/
  | ldLH
  /-- `LD L,L` (R200) -/
  | ldLL
  /-- `LD L,(HL)` (R202) -/
  | ldLMemHl
  /-- `LD L,A` (R200) -/
  | ldLA
  /-- `LD (HL),B` (R203) -/
  | ldMemHlB
  /-- `LD (HL),C` (R203) -/
  | ldMemHlC
  /-- `LD (HL),D` (R203) -/
  | ldMemHlD
  /-- `LD (HL),E` (R203) -/
  | ldMemHlE
  /-- `LD (HL),H` (R203) -/
  | ldMemHlH
  /-- `LD (HL),L` (R203) -/
  | ldMemHlL
  /-- `HALT` (R371) -/
  | halt
  /-- `LD (HL),A` (R203) -/
  | ldMemHlA
  /-- `LD A,B` (R200) -/
  | ldAB
  /-- `LD A,C` (R200) -/
  | ldAC
  /-- `LD A,D` (R200) -/
  | ldAD
  /-- `LD A,E` (R200) -/
  | ldAE
  /-- `LD A,H` (R200) -/
  | ldAH
  /-- `LD A,L` (R200) -/
  | ldAL
  /-- `LD A,(HL)` (R202) -/
  | ldAMemHl
  /-- `LD A,A` (R200) -/
  | ldAA
  /-- `ADD A,B` (R261) -/
  | addAB
  /-- `ADD A,C` (R261) -/
  | addAC
  /-- `ADD A,D` (R261) -/
  | addAD
  /-- `ADD A,E` (R261) -/
  | addAE
  /-- `ADD A,H` (R261) -/
  | addAH
  /-- `ADD A,L` (R261) -/
  | addAL
  /-- `ADD A,(HL)` (R261) -/
  | addAMemHl
  /-- `ADD A,A` (R261) -/
  | addAA
  /-- `ADC A,B` (R262) -/
  | adcAB
  /-- `ADC A,C` (R262) -/
  | adcAC
  /-- `ADC A,D` (R262) -/
  | adcAD
  /-- `ADC A,E` (R262) -/
  | adcAE
  /-- `ADC A,H` (R262) -/
  | adcAH
  /-- `ADC A,L` (R262) -/
  | adcAL
  /-- `ADC A,(HL)` (R262) -/
  | adcAMemHl
  /-- `ADC A,A` (R262) -/
  | adcAA
  /-- `SUB B` (R263) -/
  | subB
  /-- `SUB C` (R263) -/
  | subC
  /-- `SUB D` (R263) -/
  | subD
  /-- `SUB E` (R263) -/
  | subE
  /-- `SUB H` (R263) -/
  | subH
  /-- `SUB L` (R263) -/
  | subL
  /-- `SUB (HL)` (R263) -/
  | subMemHl
  /-- `SUB A` (R263) -/
  | subA
  /-- `SBC A,B` (R264) -/
  | sbcAB
  /-- `SBC A,C` (R264) -/
  | sbcAC
  /-- `SBC A,D` (R264) -/
  | sbcAD
  /-- `SBC A,E` (R264) -/
  | sbcAE
  /-- `SBC A,H` (R264) -/
  | sbcAH
  /-- `SBC A,L` (R264) -/
  | sbcAL
  /-- `SBC A,(HL)` (R264) -/
  | sbcAMemHl
  /-- `SBC A,A` (R264) -/
  | sbcAA
  /-- `AND B` (R265) -/
  | andB
  /-- `AND C` (R265) -/
  | andC
  /-- `AND D` (R265) -/
  | andD
  /-- `AND E` (R265) -/
  | andE
  /-- `AND H` (R265) -/
  | andH
  /-- `AND L` (R265) -/
  | andL
  /-- `AND (HL)` (R265) -/
  | andMemHl
  /-- `AND A` (R265) -/
  | andA
  /-- `XOR B` (R266) -/
  | xorB
  /-- `XOR C` (R266) -/
  | xorC
  /-- `XOR D` (R266) -/
  | xorD
  /-- `XOR E` (R266) -/
  | xorE
  /-- `XOR H` (R266) -/
  | xorH
  /-- `XOR L` (R266) -/
  | xorL
  /-- `XOR (HL)` (R266) -/
  | xorMemHl
  /-- `XOR A` (R266) -/
  | xorA
  /-- `OR B` (R267) -/
  | orB
  /-- `OR C` (R267) -/
  | orC
  /-- `OR D` (R267) -/
  | orD
  /-- `OR E` (R267) -/
  | orE
  /-- `OR H` (R267) -/
  | orH
  /-- `OR L` (R267) -/
  | orL
  /-- `OR (HL)` (R267) -/
  | orMemHl
  /-- `OR A` (R267) -/
  | orA
  /-- `CP B` (R268) -/
  | cpB
  /-- `CP C` (R268) -/
  | cpC
  /-- `CP D` (R268) -/
  | cpD
  /-- `CP E` (R268) -/
  | cpE
  /-- `CP H` (R268) -/
  | cpH
  /-- `CP L` (R268) -/
  | cpL
  /-- `CP (HL)` (R268) -/
  | cpMemHl
  /-- `CP A` (R268) -/
  | cpA
  /-- `RET NZ` (R349) -/
  | retNz
  /-- `POP BC` (R245) -/
  | popBc
  /-- `PUSH BC` (R244) -/
  | pushBc
  /-- `RST 0x00` (R351) -/
  | rst00
  /-- `RET Z` (R349) -/
  | retZ
  /-- `RET` (R348) -/
  | ret
  /-- `PREFIX CB` (R375) -/
  | prefixCb
  /-- `RST 0x08` (R351) -/
  | rst08
  /-- `RET NC` (R349) -/
  | retNc
  /-- `POP DE` (R245) -/
  | popDe
  /-- `ILLEGAL_D3` (R376) -/
  | illegalD3
  /-- `PUSH DE` (R244) -/
  | pushDe
  /-- `RST 0x10` (R351) -/
  | rst10
  /-- `RET C` (R349) -/
  | retC
  /-- `RETI` (R350) -/
  | reti
  /-- `ILLEGAL_DB` (R376) -/
  | illegalDB
  /-- `ILLEGAL_DD` (R376) -/
  | illegalDD
  /-- `RST 0x18` (R351) -/
  | rst18
  /-- `POP HL` (R245) -/
  | popHl
  /-- `LDH (C),A` (R212) -/
  | ldhMemCA
  /-- `ILLEGAL_E3` (R376) -/
  | illegalE3
  /-- `ILLEGAL_E4` (R376) -/
  | illegalE4
  /-- `PUSH HL` (R244) -/
  | pushHl
  /-- `RST 0x20` (R351) -/
  | rst20
  /-- `JP HL` (R343) -/
  | jpHl
  /-- `ILLEGAL_EB` (R376) -/
  | illegalEB
  /-- `ILLEGAL_EC` (R376) -/
  | illegalEC
  /-- `ILLEGAL_ED` (R376) -/
  | illegalED
  /-- `RST 0x28` (R351) -/
  | rst28
  /-- `POP AF` (R245) -/
  | popAf
  /-- `LDH A,(C)` (R211) -/
  | ldhAMemC
  /-- `DI` (R373) -/
  | di
  /-- `ILLEGAL_F4` (R376) -/
  | illegalF4
  /-- `PUSH AF` (R244) -/
  | pushAf
  /-- `RST 0x30` (R351) -/
  | rst30
  /-- `LD SP,HL` (R242) -/
  | ldSpHl
  /-- `EI` (R374) -/
  | ei
  /-- `ILLEGAL_FC` (R376) -/
  | illegalFC
  /-- `ILLEGAL_FD` (R376) -/
  | illegalFD
  /-- `RST 0x38` (R351) -/
  | rst38
  /-- `RLC B` (R315) -/
  | rlcB
  /-- `RLC C` (R315) -/
  | rlcC
  /-- `RLC D` (R315) -/
  | rlcD
  /-- `RLC E` (R315) -/
  | rlcE
  /-- `RLC H` (R315) -/
  | rlcH
  /-- `RLC L` (R315) -/
  | rlcL
  /-- `RLC (HL)` (R315) -/
  | rlcMemHl
  /-- `RLC A` (R315) -/
  | rlcA
  /-- `RRC B` (R316) -/
  | rrcB
  /-- `RRC C` (R316) -/
  | rrcC
  /-- `RRC D` (R316) -/
  | rrcD
  /-- `RRC E` (R316) -/
  | rrcE
  /-- `RRC H` (R316) -/
  | rrcH
  /-- `RRC L` (R316) -/
  | rrcL
  /-- `RRC (HL)` (R316) -/
  | rrcMemHl
  /-- `RRC A` (R316) -/
  | rrcA
  /-- `RL B` (R317) -/
  | rlB
  /-- `RL C` (R317) -/
  | rlC
  /-- `RL D` (R317) -/
  | rlD
  /-- `RL E` (R317) -/
  | rlE
  /-- `RL H` (R317) -/
  | rlH
  /-- `RL L` (R317) -/
  | rlL
  /-- `RL (HL)` (R317) -/
  | rlMemHl
  /-- `RL A` (R317) -/
  | rlA
  /-- `RR B` (R318) -/
  | rrB
  /-- `RR C` (R318) -/
  | rrC
  /-- `RR D` (R318) -/
  | rrD
  /-- `RR E` (R318) -/
  | rrE
  /-- `RR H` (R318) -/
  | rrH
  /-- `RR L` (R318) -/
  | rrL
  /-- `RR (HL)` (R318) -/
  | rrMemHl
  /-- `RR A` (R318) -/
  | rrA
  /-- `SLA B` (R319) -/
  | slaB
  /-- `SLA C` (R319) -/
  | slaC
  /-- `SLA D` (R319) -/
  | slaD
  /-- `SLA E` (R319) -/
  | slaE
  /-- `SLA H` (R319) -/
  | slaH
  /-- `SLA L` (R319) -/
  | slaL
  /-- `SLA (HL)` (R319) -/
  | slaMemHl
  /-- `SLA A` (R319) -/
  | slaA
  /-- `SRA B` (R320) -/
  | sraB
  /-- `SRA C` (R320) -/
  | sraC
  /-- `SRA D` (R320) -/
  | sraD
  /-- `SRA E` (R320) -/
  | sraE
  /-- `SRA H` (R320) -/
  | sraH
  /-- `SRA L` (R320) -/
  | sraL
  /-- `SRA (HL)` (R320) -/
  | sraMemHl
  /-- `SRA A` (R320) -/
  | sraA
  /-- `SWAP B` (R321) -/
  | swapB
  /-- `SWAP C` (R321) -/
  | swapC
  /-- `SWAP D` (R321) -/
  | swapD
  /-- `SWAP E` (R321) -/
  | swapE
  /-- `SWAP H` (R321) -/
  | swapH
  /-- `SWAP L` (R321) -/
  | swapL
  /-- `SWAP (HL)` (R321) -/
  | swapMemHl
  /-- `SWAP A` (R321) -/
  | swapA
  /-- `SRL B` (R322) -/
  | srlB
  /-- `SRL C` (R322) -/
  | srlC
  /-- `SRL D` (R322) -/
  | srlD
  /-- `SRL E` (R322) -/
  | srlE
  /-- `SRL H` (R322) -/
  | srlH
  /-- `SRL L` (R322) -/
  | srlL
  /-- `SRL (HL)` (R322) -/
  | srlMemHl
  /-- `SRL A` (R322) -/
  | srlA
  /-- `BIT 0,B` (R323) -/
  | bit0B
  /-- `BIT 0,C` (R323) -/
  | bit0C
  /-- `BIT 0,D` (R323) -/
  | bit0D
  /-- `BIT 0,E` (R323) -/
  | bit0E
  /-- `BIT 0,H` (R323) -/
  | bit0H
  /-- `BIT 0,L` (R323) -/
  | bit0L
  /-- `BIT 0,(HL)` (R323) -/
  | bit0MemHl
  /-- `BIT 0,A` (R323) -/
  | bit0A
  /-- `BIT 1,B` (R323) -/
  | bit1B
  /-- `BIT 1,C` (R323) -/
  | bit1C
  /-- `BIT 1,D` (R323) -/
  | bit1D
  /-- `BIT 1,E` (R323) -/
  | bit1E
  /-- `BIT 1,H` (R323) -/
  | bit1H
  /-- `BIT 1,L` (R323) -/
  | bit1L
  /-- `BIT 1,(HL)` (R323) -/
  | bit1MemHl
  /-- `BIT 1,A` (R323) -/
  | bit1A
  /-- `BIT 2,B` (R323) -/
  | bit2B
  /-- `BIT 2,C` (R323) -/
  | bit2C
  /-- `BIT 2,D` (R323) -/
  | bit2D
  /-- `BIT 2,E` (R323) -/
  | bit2E
  /-- `BIT 2,H` (R323) -/
  | bit2H
  /-- `BIT 2,L` (R323) -/
  | bit2L
  /-- `BIT 2,(HL)` (R323) -/
  | bit2MemHl
  /-- `BIT 2,A` (R323) -/
  | bit2A
  /-- `BIT 3,B` (R323) -/
  | bit3B
  /-- `BIT 3,C` (R323) -/
  | bit3C
  /-- `BIT 3,D` (R323) -/
  | bit3D
  /-- `BIT 3,E` (R323) -/
  | bit3E
  /-- `BIT 3,H` (R323) -/
  | bit3H
  /-- `BIT 3,L` (R323) -/
  | bit3L
  /-- `BIT 3,(HL)` (R323) -/
  | bit3MemHl
  /-- `BIT 3,A` (R323) -/
  | bit3A
  /-- `BIT 4,B` (R323) -/
  | bit4B
  /-- `BIT 4,C` (R323) -/
  | bit4C
  /-- `BIT 4,D` (R323) -/
  | bit4D
  /-- `BIT 4,E` (R323) -/
  | bit4E
  /-- `BIT 4,H` (R323) -/
  | bit4H
  /-- `BIT 4,L` (R323) -/
  | bit4L
  /-- `BIT 4,(HL)` (R323) -/
  | bit4MemHl
  /-- `BIT 4,A` (R323) -/
  | bit4A
  /-- `BIT 5,B` (R323) -/
  | bit5B
  /-- `BIT 5,C` (R323) -/
  | bit5C
  /-- `BIT 5,D` (R323) -/
  | bit5D
  /-- `BIT 5,E` (R323) -/
  | bit5E
  /-- `BIT 5,H` (R323) -/
  | bit5H
  /-- `BIT 5,L` (R323) -/
  | bit5L
  /-- `BIT 5,(HL)` (R323) -/
  | bit5MemHl
  /-- `BIT 5,A` (R323) -/
  | bit5A
  /-- `BIT 6,B` (R323) -/
  | bit6B
  /-- `BIT 6,C` (R323) -/
  | bit6C
  /-- `BIT 6,D` (R323) -/
  | bit6D
  /-- `BIT 6,E` (R323) -/
  | bit6E
  /-- `BIT 6,H` (R323) -/
  | bit6H
  /-- `BIT 6,L` (R323) -/
  | bit6L
  /-- `BIT 6,(HL)` (R323) -/
  | bit6MemHl
  /-- `BIT 6,A` (R323) -/
  | bit6A
  /-- `BIT 7,B` (R323) -/
  | bit7B
  /-- `BIT 7,C` (R323) -/
  | bit7C
  /-- `BIT 7,D` (R323) -/
  | bit7D
  /-- `BIT 7,E` (R323) -/
  | bit7E
  /-- `BIT 7,H` (R323) -/
  | bit7H
  /-- `BIT 7,L` (R323) -/
  | bit7L
  /-- `BIT 7,(HL)` (R323) -/
  | bit7MemHl
  /-- `BIT 7,A` (R323) -/
  | bit7A
  /-- `RES 0,B` (R324) -/
  | res0B
  /-- `RES 0,C` (R324) -/
  | res0C
  /-- `RES 0,D` (R324) -/
  | res0D
  /-- `RES 0,E` (R324) -/
  | res0E
  /-- `RES 0,H` (R324) -/
  | res0H
  /-- `RES 0,L` (R324) -/
  | res0L
  /-- `RES 0,(HL)` (R324) -/
  | res0MemHl
  /-- `RES 0,A` (R324) -/
  | res0A
  /-- `RES 1,B` (R324) -/
  | res1B
  /-- `RES 1,C` (R324) -/
  | res1C
  /-- `RES 1,D` (R324) -/
  | res1D
  /-- `RES 1,E` (R324) -/
  | res1E
  /-- `RES 1,H` (R324) -/
  | res1H
  /-- `RES 1,L` (R324) -/
  | res1L
  /-- `RES 1,(HL)` (R324) -/
  | res1MemHl
  /-- `RES 1,A` (R324) -/
  | res1A
  /-- `RES 2,B` (R324) -/
  | res2B
  /-- `RES 2,C` (R324) -/
  | res2C
  /-- `RES 2,D` (R324) -/
  | res2D
  /-- `RES 2,E` (R324) -/
  | res2E
  /-- `RES 2,H` (R324) -/
  | res2H
  /-- `RES 2,L` (R324) -/
  | res2L
  /-- `RES 2,(HL)` (R324) -/
  | res2MemHl
  /-- `RES 2,A` (R324) -/
  | res2A
  /-- `RES 3,B` (R324) -/
  | res3B
  /-- `RES 3,C` (R324) -/
  | res3C
  /-- `RES 3,D` (R324) -/
  | res3D
  /-- `RES 3,E` (R324) -/
  | res3E
  /-- `RES 3,H` (R324) -/
  | res3H
  /-- `RES 3,L` (R324) -/
  | res3L
  /-- `RES 3,(HL)` (R324) -/
  | res3MemHl
  /-- `RES 3,A` (R324) -/
  | res3A
  /-- `RES 4,B` (R324) -/
  | res4B
  /-- `RES 4,C` (R324) -/
  | res4C
  /-- `RES 4,D` (R324) -/
  | res4D
  /-- `RES 4,E` (R324) -/
  | res4E
  /-- `RES 4,H` (R324) -/
  | res4H
  /-- `RES 4,L` (R324) -/
  | res4L
  /-- `RES 4,(HL)` (R324) -/
  | res4MemHl
  /-- `RES 4,A` (R324) -/
  | res4A
  /-- `RES 5,B` (R324) -/
  | res5B
  /-- `RES 5,C` (R324) -/
  | res5C
  /-- `RES 5,D` (R324) -/
  | res5D
  /-- `RES 5,E` (R324) -/
  | res5E
  /-- `RES 5,H` (R324) -/
  | res5H
  /-- `RES 5,L` (R324) -/
  | res5L
  /-- `RES 5,(HL)` (R324) -/
  | res5MemHl
  /-- `RES 5,A` (R324) -/
  | res5A
  /-- `RES 6,B` (R324) -/
  | res6B
  /-- `RES 6,C` (R324) -/
  | res6C
  /-- `RES 6,D` (R324) -/
  | res6D
  /-- `RES 6,E` (R324) -/
  | res6E
  /-- `RES 6,H` (R324) -/
  | res6H
  /-- `RES 6,L` (R324) -/
  | res6L
  /-- `RES 6,(HL)` (R324) -/
  | res6MemHl
  /-- `RES 6,A` (R324) -/
  | res6A
  /-- `RES 7,B` (R324) -/
  | res7B
  /-- `RES 7,C` (R324) -/
  | res7C
  /-- `RES 7,D` (R324) -/
  | res7D
  /-- `RES 7,E` (R324) -/
  | res7E
  /-- `RES 7,H` (R324) -/
  | res7H
  /-- `RES 7,L` (R324) -/
  | res7L
  /-- `RES 7,(HL)` (R324) -/
  | res7MemHl
  /-- `RES 7,A` (R324) -/
  | res7A
  /-- `SET 0,B` (R325) -/
  | set0B
  /-- `SET 0,C` (R325) -/
  | set0C
  /-- `SET 0,D` (R325) -/
  | set0D
  /-- `SET 0,E` (R325) -/
  | set0E
  /-- `SET 0,H` (R325) -/
  | set0H
  /-- `SET 0,L` (R325) -/
  | set0L
  /-- `SET 0,(HL)` (R325) -/
  | set0MemHl
  /-- `SET 0,A` (R325) -/
  | set0A
  /-- `SET 1,B` (R325) -/
  | set1B
  /-- `SET 1,C` (R325) -/
  | set1C
  /-- `SET 1,D` (R325) -/
  | set1D
  /-- `SET 1,E` (R325) -/
  | set1E
  /-- `SET 1,H` (R325) -/
  | set1H
  /-- `SET 1,L` (R325) -/
  | set1L
  /-- `SET 1,(HL)` (R325) -/
  | set1MemHl
  /-- `SET 1,A` (R325) -/
  | set1A
  /-- `SET 2,B` (R325) -/
  | set2B
  /-- `SET 2,C` (R325) -/
  | set2C
  /-- `SET 2,D` (R325) -/
  | set2D
  /-- `SET 2,E` (R325) -/
  | set2E
  /-- `SET 2,H` (R325) -/
  | set2H
  /-- `SET 2,L` (R325) -/
  | set2L
  /-- `SET 2,(HL)` (R325) -/
  | set2MemHl
  /-- `SET 2,A` (R325) -/
  | set2A
  /-- `SET 3,B` (R325) -/
  | set3B
  /-- `SET 3,C` (R325) -/
  | set3C
  /-- `SET 3,D` (R325) -/
  | set3D
  /-- `SET 3,E` (R325) -/
  | set3E
  /-- `SET 3,H` (R325) -/
  | set3H
  /-- `SET 3,L` (R325) -/
  | set3L
  /-- `SET 3,(HL)` (R325) -/
  | set3MemHl
  /-- `SET 3,A` (R325) -/
  | set3A
  /-- `SET 4,B` (R325) -/
  | set4B
  /-- `SET 4,C` (R325) -/
  | set4C
  /-- `SET 4,D` (R325) -/
  | set4D
  /-- `SET 4,E` (R325) -/
  | set4E
  /-- `SET 4,H` (R325) -/
  | set4H
  /-- `SET 4,L` (R325) -/
  | set4L
  /-- `SET 4,(HL)` (R325) -/
  | set4MemHl
  /-- `SET 4,A` (R325) -/
  | set4A
  /-- `SET 5,B` (R325) -/
  | set5B
  /-- `SET 5,C` (R325) -/
  | set5C
  /-- `SET 5,D` (R325) -/
  | set5D
  /-- `SET 5,E` (R325) -/
  | set5E
  /-- `SET 5,H` (R325) -/
  | set5H
  /-- `SET 5,L` (R325) -/
  | set5L
  /-- `SET 5,(HL)` (R325) -/
  | set5MemHl
  /-- `SET 5,A` (R325) -/
  | set5A
  /-- `SET 6,B` (R325) -/
  | set6B
  /-- `SET 6,C` (R325) -/
  | set6C
  /-- `SET 6,D` (R325) -/
  | set6D
  /-- `SET 6,E` (R325) -/
  | set6E
  /-- `SET 6,H` (R325) -/
  | set6H
  /-- `SET 6,L` (R325) -/
  | set6L
  /-- `SET 6,(HL)` (R325) -/
  | set6MemHl
  /-- `SET 6,A` (R325) -/
  | set6A
  /-- `SET 7,B` (R325) -/
  | set7B
  /-- `SET 7,C` (R325) -/
  | set7C
  /-- `SET 7,D` (R325) -/
  | set7D
  /-- `SET 7,E` (R325) -/
  | set7E
  /-- `SET 7,H` (R325) -/
  | set7H
  /-- `SET 7,L` (R325) -/
  | set7L
  /-- `SET 7,(HL)` (R325) -/
  | set7MemHl
  /-- `SET 7,A` (R325) -/
  | set7A
  deriving DecidableEq, Repr

end Sys2Proof
end

