-- ==== Sys2Proof/Decode.lean ====
section
/-! DEFINITION. The decoder (30_encoding R160 to R186), row by row as the matrices of R179 and R181 print it, total on any
bytes and rejecting by name; then the encoder, and the reading of one row of spec/opcode_table.json. -/

namespace Sys2Proof

open Machine (pairOf hiByte loByte)

/-- Why a byte list is not the start of an instruction. -/
inductive Reject where
  /-- no byte at all -/
  | empty
  /-- the first byte asks for `need` bytes and only `have_` are there -/
  | truncated (need have_ : Nat)
  deriving DecidableEq, Repr

/-- The length in bytes of the instruction whose opcode byte is `op` (30_encoding R160, R179). -/
def opLength (op : Byte) : Nat :=
  if op ∈ ([0x01#8, 0x08#8, 0x11#8, 0x21#8, 0x31#8, 0xC2#8, 0xC3#8, 0xC4#8, 0xCA#8, 0xCC#8, 0xCD#8, 0xD2#8, 0xD4#8,
      0xDA#8, 0xDC#8, 0xEA#8, 0xFA#8] : List Byte) then 3
  else if op ∈ ([0x06#8, 0x0E#8, 0x10#8, 0x16#8, 0x18#8, 0x1E#8, 0x20#8, 0x26#8, 0x28#8, 0x2E#8, 0x30#8, 0x36#8, 0x38#8,
      0x3E#8, 0xC6#8, 0xCB#8, 0xCE#8, 0xD6#8, 0xDE#8, 0xE0#8, 0xE6#8, 0xE8#8, 0xEE#8, 0xF0#8, 0xF6#8, 0xF8#8,
      0xFE#8] : List Byte) then 2
  else 1

/-- Row 0x of the CB page (30_encoding R181). -/
def cbRow0 (lo : Nat) : Instr :=
  match lo with
  | 0 => .rlcB
  | 1 => .rlcC
  | 2 => .rlcD
  | 3 => .rlcE
  | 4 => .rlcH
  | 5 => .rlcL
  | 6 => .rlcMemHl
  | 7 => .rlcA
  | 8 => .rrcB
  | 9 => .rrcC
  | 10 => .rrcD
  | 11 => .rrcE
  | 12 => .rrcH
  | 13 => .rrcL
  | 14 => .rrcMemHl
  | _ => .rrcA

/-- Row 1x of the CB page (30_encoding R181). -/
def cbRow1 (lo : Nat) : Instr :=
  match lo with
  | 0 => .rlB
  | 1 => .rlC
  | 2 => .rlD
  | 3 => .rlE
  | 4 => .rlH
  | 5 => .rlL
  | 6 => .rlMemHl
  | 7 => .rlA
  | 8 => .rrB
  | 9 => .rrC
  | 10 => .rrD
  | 11 => .rrE
  | 12 => .rrH
  | 13 => .rrL
  | 14 => .rrMemHl
  | _ => .rrA

/-- Row 2x of the CB page (30_encoding R181). -/
def cbRow2 (lo : Nat) : Instr :=
  match lo with
  | 0 => .slaB
  | 1 => .slaC
  | 2 => .slaD
  | 3 => .slaE
  | 4 => .slaH
  | 5 => .slaL
  | 6 => .slaMemHl
  | 7 => .slaA
  | 8 => .sraB
  | 9 => .sraC
  | 10 => .sraD
  | 11 => .sraE
  | 12 => .sraH
  | 13 => .sraL
  | 14 => .sraMemHl
  | _ => .sraA

/-- Row 3x of the CB page (30_encoding R181). -/
def cbRow3 (lo : Nat) : Instr :=
  match lo with
  | 0 => .swapB
  | 1 => .swapC
  | 2 => .swapD
  | 3 => .swapE
  | 4 => .swapH
  | 5 => .swapL
  | 6 => .swapMemHl
  | 7 => .swapA
  | 8 => .srlB
  | 9 => .srlC
  | 10 => .srlD
  | 11 => .srlE
  | 12 => .srlH
  | 13 => .srlL
  | 14 => .srlMemHl
  | _ => .srlA

/-- Row 4x of the CB page (30_encoding R181). -/
def cbRow4 (lo : Nat) : Instr :=
  match lo with
  | 0 => .bit0B
  | 1 => .bit0C
  | 2 => .bit0D
  | 3 => .bit0E
  | 4 => .bit0H
  | 5 => .bit0L
  | 6 => .bit0MemHl
  | 7 => .bit0A
  | 8 => .bit1B
  | 9 => .bit1C
  | 10 => .bit1D
  | 11 => .bit1E
  | 12 => .bit1H
  | 13 => .bit1L
  | 14 => .bit1MemHl
  | _ => .bit1A

/-- Row 5x of the CB page (30_encoding R181). -/
def cbRow5 (lo : Nat) : Instr :=
  match lo with
  | 0 => .bit2B
  | 1 => .bit2C
  | 2 => .bit2D
  | 3 => .bit2E
  | 4 => .bit2H
  | 5 => .bit2L
  | 6 => .bit2MemHl
  | 7 => .bit2A
  | 8 => .bit3B
  | 9 => .bit3C
  | 10 => .bit3D
  | 11 => .bit3E
  | 12 => .bit3H
  | 13 => .bit3L
  | 14 => .bit3MemHl
  | _ => .bit3A

/-- Row 6x of the CB page (30_encoding R181). -/
def cbRow6 (lo : Nat) : Instr :=
  match lo with
  | 0 => .bit4B
  | 1 => .bit4C
  | 2 => .bit4D
  | 3 => .bit4E
  | 4 => .bit4H
  | 5 => .bit4L
  | 6 => .bit4MemHl
  | 7 => .bit4A
  | 8 => .bit5B
  | 9 => .bit5C
  | 10 => .bit5D
  | 11 => .bit5E
  | 12 => .bit5H
  | 13 => .bit5L
  | 14 => .bit5MemHl
  | _ => .bit5A

/-- Row 7x of the CB page (30_encoding R181). -/
def cbRow7 (lo : Nat) : Instr :=
  match lo with
  | 0 => .bit6B
  | 1 => .bit6C
  | 2 => .bit6D
  | 3 => .bit6E
  | 4 => .bit6H
  | 5 => .bit6L
  | 6 => .bit6MemHl
  | 7 => .bit6A
  | 8 => .bit7B
  | 9 => .bit7C
  | 10 => .bit7D
  | 11 => .bit7E
  | 12 => .bit7H
  | 13 => .bit7L
  | 14 => .bit7MemHl
  | _ => .bit7A

/-- Row 8x of the CB page (30_encoding R181). -/
def cbRow8 (lo : Nat) : Instr :=
  match lo with
  | 0 => .res0B
  | 1 => .res0C
  | 2 => .res0D
  | 3 => .res0E
  | 4 => .res0H
  | 5 => .res0L
  | 6 => .res0MemHl
  | 7 => .res0A
  | 8 => .res1B
  | 9 => .res1C
  | 10 => .res1D
  | 11 => .res1E
  | 12 => .res1H
  | 13 => .res1L
  | 14 => .res1MemHl
  | _ => .res1A

/-- Row 9x of the CB page (30_encoding R181). -/
def cbRow9 (lo : Nat) : Instr :=
  match lo with
  | 0 => .res2B
  | 1 => .res2C
  | 2 => .res2D
  | 3 => .res2E
  | 4 => .res2H
  | 5 => .res2L
  | 6 => .res2MemHl
  | 7 => .res2A
  | 8 => .res3B
  | 9 => .res3C
  | 10 => .res3D
  | 11 => .res3E
  | 12 => .res3H
  | 13 => .res3L
  | 14 => .res3MemHl
  | _ => .res3A

/-- Row Ax of the CB page (30_encoding R181). -/
def cbRowA (lo : Nat) : Instr :=
  match lo with
  | 0 => .res4B
  | 1 => .res4C
  | 2 => .res4D
  | 3 => .res4E
  | 4 => .res4H
  | 5 => .res4L
  | 6 => .res4MemHl
  | 7 => .res4A
  | 8 => .res5B
  | 9 => .res5C
  | 10 => .res5D
  | 11 => .res5E
  | 12 => .res5H
  | 13 => .res5L
  | 14 => .res5MemHl
  | _ => .res5A

/-- Row Bx of the CB page (30_encoding R181). -/
def cbRowB (lo : Nat) : Instr :=
  match lo with
  | 0 => .res6B
  | 1 => .res6C
  | 2 => .res6D
  | 3 => .res6E
  | 4 => .res6H
  | 5 => .res6L
  | 6 => .res6MemHl
  | 7 => .res6A
  | 8 => .res7B
  | 9 => .res7C
  | 10 => .res7D
  | 11 => .res7E
  | 12 => .res7H
  | 13 => .res7L
  | 14 => .res7MemHl
  | _ => .res7A

/-- Row Cx of the CB page (30_encoding R181). -/
def cbRowC (lo : Nat) : Instr :=
  match lo with
  | 0 => .set0B
  | 1 => .set0C
  | 2 => .set0D
  | 3 => .set0E
  | 4 => .set0H
  | 5 => .set0L
  | 6 => .set0MemHl
  | 7 => .set0A
  | 8 => .set1B
  | 9 => .set1C
  | 10 => .set1D
  | 11 => .set1E
  | 12 => .set1H
  | 13 => .set1L
  | 14 => .set1MemHl
  | _ => .set1A

/-- Row Dx of the CB page (30_encoding R181). -/
def cbRowD (lo : Nat) : Instr :=
  match lo with
  | 0 => .set2B
  | 1 => .set2C
  | 2 => .set2D
  | 3 => .set2E
  | 4 => .set2H
  | 5 => .set2L
  | 6 => .set2MemHl
  | 7 => .set2A
  | 8 => .set3B
  | 9 => .set3C
  | 10 => .set3D
  | 11 => .set3E
  | 12 => .set3H
  | 13 => .set3L
  | 14 => .set3MemHl
  | _ => .set3A

/-- Row Ex of the CB page (30_encoding R181). -/
def cbRowE (lo : Nat) : Instr :=
  match lo with
  | 0 => .set4B
  | 1 => .set4C
  | 2 => .set4D
  | 3 => .set4E
  | 4 => .set4H
  | 5 => .set4L
  | 6 => .set4MemHl
  | 7 => .set4A
  | 8 => .set5B
  | 9 => .set5C
  | 10 => .set5D
  | 11 => .set5E
  | 12 => .set5H
  | 13 => .set5L
  | 14 => .set5MemHl
  | _ => .set5A

/-- Row Fx of the CB page (30_encoding R181). -/
def cbRowF (lo : Nat) : Instr :=
  match lo with
  | 0 => .set6B
  | 1 => .set6C
  | 2 => .set6D
  | 3 => .set6E
  | 4 => .set6H
  | 5 => .set6L
  | 6 => .set6MemHl
  | 7 => .set6A
  | 8 => .set7B
  | 9 => .set7C
  | 10 => .set7D
  | 11 => .set7E
  | 12 => .set7H
  | 13 => .set7L
  | 14 => .set7MemHl
  | _ => .set7A

/-- The CB page (30_encoding R180, R181): the instruction `0xCB, op2`. -/
def cbPage (op2 : Byte) : Instr :=
  match op2.toNat / 16 with
  | 0 => cbRow0 (op2.toNat % 16)
  | 1 => cbRow1 (op2.toNat % 16)
  | 2 => cbRow2 (op2.toNat % 16)
  | 3 => cbRow3 (op2.toNat % 16)
  | 4 => cbRow4 (op2.toNat % 16)
  | 5 => cbRow5 (op2.toNat % 16)
  | 6 => cbRow6 (op2.toNat % 16)
  | 7 => cbRow7 (op2.toNat % 16)
  | 8 => cbRow8 (op2.toNat % 16)
  | 9 => cbRow9 (op2.toNat % 16)
  | 10 => cbRowA (op2.toNat % 16)
  | 11 => cbRowB (op2.toNat % 16)
  | 12 => cbRowC (op2.toNat % 16)
  | 13 => cbRowD (op2.toNat % 16)
  | 14 => cbRowE (op2.toNat % 16)
  | _ => cbRowF (op2.toNat % 16)

/-- Row 0x of the base page (30_encoding R179): `n` is byte 1, `nn` is byte 2 and byte 1. -/
def baseRow0 (lo : Nat) (n : Byte) (nn : Word) : Instr :=
  match lo with
  | 0 => .nop
  | 1 => .ldBcNn nn
  | 2 => .ldMemBcA
  | 3 => .incBc
  | 4 => .incB
  | 5 => .decB
  | 6 => .ldBN n
  | 7 => .rlca
  | 8 => .ldMemNnSp nn
  | 9 => .addHlBc
  | 10 => .ldAMemBc
  | 11 => .decBc
  | 12 => .incC
  | 13 => .decC
  | 14 => .ldCN n
  | _ => .rrca

/-- Row 1x of the base page (30_encoding R179): `n` is byte 1, `nn` is byte 2 and byte 1. -/
def baseRow1 (lo : Nat) (n : Byte) (nn : Word) : Instr :=
  match lo with
  | 0 => .stop n
  | 1 => .ldDeNn nn
  | 2 => .ldMemDeA
  | 3 => .incDe
  | 4 => .incD
  | 5 => .decD
  | 6 => .ldDN n
  | 7 => .rla
  | 8 => .jrE n
  | 9 => .addHlDe
  | 10 => .ldAMemDe
  | 11 => .decDe
  | 12 => .incE
  | 13 => .decE
  | 14 => .ldEN n
  | _ => .rra

/-- Row 2x of the base page (30_encoding R179): `n` is byte 1, `nn` is byte 2 and byte 1. -/
def baseRow2 (lo : Nat) (n : Byte) (nn : Word) : Instr :=
  match lo with
  | 0 => .jrNzE n
  | 1 => .ldHlNn nn
  | 2 => .ldMemHlIncA
  | 3 => .incHl
  | 4 => .incH
  | 5 => .decH
  | 6 => .ldHN n
  | 7 => .daa
  | 8 => .jrZE n
  | 9 => .addHlHl
  | 10 => .ldAMemHlInc
  | 11 => .decHl
  | 12 => .incL
  | 13 => .decL
  | 14 => .ldLN n
  | _ => .cpl

/-- Row 3x of the base page (30_encoding R179): `n` is byte 1, `nn` is byte 2 and byte 1. -/
def baseRow3 (lo : Nat) (n : Byte) (nn : Word) : Instr :=
  match lo with
  | 0 => .jrNcE n
  | 1 => .ldSpNn nn
  | 2 => .ldMemHlDecA
  | 3 => .incSp
  | 4 => .incMemHl
  | 5 => .decMemHl
  | 6 => .ldMemHlN n
  | 7 => .scf
  | 8 => .jrCE n
  | 9 => .addHlSp
  | 10 => .ldAMemHlDec
  | 11 => .decSp
  | 12 => .incA
  | 13 => .decA
  | 14 => .ldAN n
  | _ => .ccf

/-- Row 4x of the base page (30_encoding R179). -/
def baseRow4 (lo : Nat) : Instr :=
  match lo with
  | 0 => .ldBB
  | 1 => .ldBC
  | 2 => .ldBD
  | 3 => .ldBE
  | 4 => .ldBH
  | 5 => .ldBL
  | 6 => .ldBMemHl
  | 7 => .ldBA
  | 8 => .ldCB
  | 9 => .ldCC
  | 10 => .ldCD
  | 11 => .ldCE
  | 12 => .ldCH
  | 13 => .ldCL
  | 14 => .ldCMemHl
  | _ => .ldCA

/-- Row 5x of the base page (30_encoding R179). -/
def baseRow5 (lo : Nat) : Instr :=
  match lo with
  | 0 => .ldDB
  | 1 => .ldDC
  | 2 => .ldDD
  | 3 => .ldDE
  | 4 => .ldDH
  | 5 => .ldDL
  | 6 => .ldDMemHl
  | 7 => .ldDA
  | 8 => .ldEB
  | 9 => .ldEC
  | 10 => .ldED
  | 11 => .ldEE
  | 12 => .ldEH
  | 13 => .ldEL
  | 14 => .ldEMemHl
  | _ => .ldEA

/-- Row 6x of the base page (30_encoding R179). -/
def baseRow6 (lo : Nat) : Instr :=
  match lo with
  | 0 => .ldHB
  | 1 => .ldHC
  | 2 => .ldHD
  | 3 => .ldHE
  | 4 => .ldHH
  | 5 => .ldHL
  | 6 => .ldHMemHl
  | 7 => .ldHA
  | 8 => .ldLB
  | 9 => .ldLC
  | 10 => .ldLD
  | 11 => .ldLE
  | 12 => .ldLH
  | 13 => .ldLL
  | 14 => .ldLMemHl
  | _ => .ldLA

/-- Row 7x of the base page (30_encoding R179). -/
def baseRow7 (lo : Nat) : Instr :=
  match lo with
  | 0 => .ldMemHlB
  | 1 => .ldMemHlC
  | 2 => .ldMemHlD
  | 3 => .ldMemHlE
  | 4 => .ldMemHlH
  | 5 => .ldMemHlL
  | 6 => .halt
  | 7 => .ldMemHlA
  | 8 => .ldAB
  | 9 => .ldAC
  | 10 => .ldAD
  | 11 => .ldAE
  | 12 => .ldAH
  | 13 => .ldAL
  | 14 => .ldAMemHl
  | _ => .ldAA

/-- Row 8x of the base page (30_encoding R179). -/
def baseRow8 (lo : Nat) : Instr :=
  match lo with
  | 0 => .addAB
  | 1 => .addAC
  | 2 => .addAD
  | 3 => .addAE
  | 4 => .addAH
  | 5 => .addAL
  | 6 => .addAMemHl
  | 7 => .addAA
  | 8 => .adcAB
  | 9 => .adcAC
  | 10 => .adcAD
  | 11 => .adcAE
  | 12 => .adcAH
  | 13 => .adcAL
  | 14 => .adcAMemHl
  | _ => .adcAA

/-- Row 9x of the base page (30_encoding R179). -/
def baseRow9 (lo : Nat) : Instr :=
  match lo with
  | 0 => .subB
  | 1 => .subC
  | 2 => .subD
  | 3 => .subE
  | 4 => .subH
  | 5 => .subL
  | 6 => .subMemHl
  | 7 => .subA
  | 8 => .sbcAB
  | 9 => .sbcAC
  | 10 => .sbcAD
  | 11 => .sbcAE
  | 12 => .sbcAH
  | 13 => .sbcAL
  | 14 => .sbcAMemHl
  | _ => .sbcAA

/-- Row Ax of the base page (30_encoding R179). -/
def baseRowA (lo : Nat) : Instr :=
  match lo with
  | 0 => .andB
  | 1 => .andC
  | 2 => .andD
  | 3 => .andE
  | 4 => .andH
  | 5 => .andL
  | 6 => .andMemHl
  | 7 => .andA
  | 8 => .xorB
  | 9 => .xorC
  | 10 => .xorD
  | 11 => .xorE
  | 12 => .xorH
  | 13 => .xorL
  | 14 => .xorMemHl
  | _ => .xorA

/-- Row Bx of the base page (30_encoding R179). -/
def baseRowB (lo : Nat) : Instr :=
  match lo with
  | 0 => .orB
  | 1 => .orC
  | 2 => .orD
  | 3 => .orE
  | 4 => .orH
  | 5 => .orL
  | 6 => .orMemHl
  | 7 => .orA
  | 8 => .cpB
  | 9 => .cpC
  | 10 => .cpD
  | 11 => .cpE
  | 12 => .cpH
  | 13 => .cpL
  | 14 => .cpMemHl
  | _ => .cpA

/-- Row Cx of the base page (30_encoding R179): `n` is byte 1, `nn` is byte 2 and byte 1. -/
def baseRowC (lo : Nat) (n : Byte) (nn : Word) : Instr :=
  match lo with
  | 0 => .retNz
  | 1 => .popBc
  | 2 => .jpNzNn nn
  | 3 => .jpNn nn
  | 4 => .callNzNn nn
  | 5 => .pushBc
  | 6 => .addAN n
  | 7 => .rst00
  | 8 => .retZ
  | 9 => .ret
  | 10 => .jpZNn nn
  | 11 => cbPage n
  | 12 => .callZNn nn
  | 13 => .callNn nn
  | 14 => .adcAN n
  | _ => .rst08

/-- Row Dx of the base page (30_encoding R179): `n` is byte 1, `nn` is byte 2 and byte 1. -/
def baseRowD (lo : Nat) (n : Byte) (nn : Word) : Instr :=
  match lo with
  | 0 => .retNc
  | 1 => .popDe
  | 2 => .jpNcNn nn
  | 3 => .illegalD3
  | 4 => .callNcNn nn
  | 5 => .pushDe
  | 6 => .subN n
  | 7 => .rst10
  | 8 => .retC
  | 9 => .reti
  | 10 => .jpCNn nn
  | 11 => .illegalDB
  | 12 => .callCNn nn
  | 13 => .illegalDD
  | 14 => .sbcAN n
  | _ => .rst18

/-- Row Ex of the base page (30_encoding R179): `n` is byte 1, `nn` is byte 2 and byte 1. -/
def baseRowE (lo : Nat) (n : Byte) (nn : Word) : Instr :=
  match lo with
  | 0 => .ldhMemNA n
  | 1 => .popHl
  | 2 => .ldhMemCA
  | 3 => .illegalE3
  | 4 => .illegalE4
  | 5 => .pushHl
  | 6 => .andN n
  | 7 => .rst20
  | 8 => .addSpE n
  | 9 => .jpHl
  | 10 => .ldMemNnA nn
  | 11 => .illegalEB
  | 12 => .illegalEC
  | 13 => .illegalED
  | 14 => .xorN n
  | _ => .rst28

/-- Row Fx of the base page (30_encoding R179): `n` is byte 1, `nn` is byte 2 and byte 1. -/
def baseRowF (lo : Nat) (n : Byte) (nn : Word) : Instr :=
  match lo with
  | 0 => .ldhAMemN n
  | 1 => .popAf
  | 2 => .ldhAMemC
  | 3 => .di
  | 4 => .illegalF4
  | 5 => .pushAf
  | 6 => .orN n
  | 7 => .rst30
  | 8 => .ldHlSpE n
  | 9 => .ldSpHl
  | 10 => .ldAMemNn nn
  | 11 => .ei
  | 12 => .illegalFC
  | 13 => .illegalFD
  | 14 => .cpN n
  | _ => .rst38

/-- The instruction whose bytes are `b0`, `b1`, `b2`, as many of them as its length asks for (30_encoding R186). Immediates:
`n` and `e` are byte 1 (R174, R175), `nn` is byte 2 high and byte 1 low (R176). -/
def decodeOp (b0 b1 b2 : Byte) : Instr :=
  match b0.toNat / 16 with
  | 0 => baseRow0 (b0.toNat % 16) b1 (pairOf b2 b1)
  | 1 => baseRow1 (b0.toNat % 16) b1 (pairOf b2 b1)
  | 2 => baseRow2 (b0.toNat % 16) b1 (pairOf b2 b1)
  | 3 => baseRow3 (b0.toNat % 16) b1 (pairOf b2 b1)
  | 4 => baseRow4 (b0.toNat % 16)
  | 5 => baseRow5 (b0.toNat % 16)
  | 6 => baseRow6 (b0.toNat % 16)
  | 7 => baseRow7 (b0.toNat % 16)
  | 8 => baseRow8 (b0.toNat % 16)
  | 9 => baseRow9 (b0.toNat % 16)
  | 10 => baseRowA (b0.toNat % 16)
  | 11 => baseRowB (b0.toNat % 16)
  | 12 => baseRowC (b0.toNat % 16) b1 (pairOf b2 b1)
  | 13 => baseRowD (b0.toNat % 16) b1 (pairOf b2 b1)
  | 14 => baseRowE (b0.toNat % 16) b1 (pairOf b2 b1)
  | _ => baseRowF (b0.toNat % 16) b1 (pairOf b2 b1)

/-- Decode the first instruction of a byte list; answer it with the bytes that follow. The prefix byte with nothing after
it is read as the table's row `PREFIX CB` (log entry 6); every other instruction that lacks a byte is rejected. -/
def decode (bytes : List Byte) : Except Reject (Instr × List Byte) :=
  match bytes with
  | [] => .error .empty
  | b0 :: rest =>
    if b0 = 0xCB#8 ∧ rest = [] then .ok (.prefixCb, [])
    else if rest.length + 1 < opLength b0 then .error (.truncated (opLength b0) (rest.length + 1))
    else .ok (decodeOp b0 (rest.getD 0 0#8) (rest.getD 1 0#8), rest.drop (opLength b0 - 1))

/-- The bytes of an instruction (30_encoding R161, R179, R181): opcode, then the immediate, low byte first (R141, R176). -/
def encode (i : Instr) : List Byte :=
  match i with
  | .nop => [0x00#8]
  | .ldBcNn nn => [0x01#8, loByte nn, hiByte nn]
  | .ldMemBcA => [0x02#8]
  | .incBc => [0x03#8]
  | .incB => [0x04#8]
  | .decB => [0x05#8]
  | .ldBN n => [0x06#8, n]
  | .rlca => [0x07#8]
  | .ldMemNnSp nn => [0x08#8, loByte nn, hiByte nn]
  | .addHlBc => [0x09#8]
  | .ldAMemBc => [0x0A#8]
  | .decBc => [0x0B#8]
  | .incC => [0x0C#8]
  | .decC => [0x0D#8]
  | .ldCN n => [0x0E#8, n]
  | .rrca => [0x0F#8]
  | .stop n => [0x10#8, n]
  | .ldDeNn nn => [0x11#8, loByte nn, hiByte nn]
  | .ldMemDeA => [0x12#8]
  | .incDe => [0x13#8]
  | .incD => [0x14#8]
  | .decD => [0x15#8]
  | .ldDN n => [0x16#8, n]
  | .rla => [0x17#8]
  | .jrE e => [0x18#8, e]
  | .addHlDe => [0x19#8]
  | .ldAMemDe => [0x1A#8]
  | .decDe => [0x1B#8]
  | .incE => [0x1C#8]
  | .decE => [0x1D#8]
  | .ldEN n => [0x1E#8, n]
  | .rra => [0x1F#8]
  | .jrNzE e => [0x20#8, e]
  | .ldHlNn nn => [0x21#8, loByte nn, hiByte nn]
  | .ldMemHlIncA => [0x22#8]
  | .incHl => [0x23#8]
  | .incH => [0x24#8]
  | .decH => [0x25#8]
  | .ldHN n => [0x26#8, n]
  | .daa => [0x27#8]
  | .jrZE e => [0x28#8, e]
  | .addHlHl => [0x29#8]
  | .ldAMemHlInc => [0x2A#8]
  | .decHl => [0x2B#8]
  | .incL => [0x2C#8]
  | .decL => [0x2D#8]
  | .ldLN n => [0x2E#8, n]
  | .cpl => [0x2F#8]
  | .jrNcE e => [0x30#8, e]
  | .ldSpNn nn => [0x31#8, loByte nn, hiByte nn]
  | .ldMemHlDecA => [0x32#8]
  | .incSp => [0x33#8]
  | .incMemHl => [0x34#8]
  | .decMemHl => [0x35#8]
  | .ldMemHlN n => [0x36#8, n]
  | .scf => [0x37#8]
  | .jrCE e => [0x38#8, e]
  | .addHlSp => [0x39#8]
  | .ldAMemHlDec => [0x3A#8]
  | .decSp => [0x3B#8]
  | .incA => [0x3C#8]
  | .decA => [0x3D#8]
  | .ldAN n => [0x3E#8, n]
  | .ccf => [0x3F#8]
  | .ldBB => [0x40#8]
  | .ldBC => [0x41#8]
  | .ldBD => [0x42#8]
  | .ldBE => [0x43#8]
  | .ldBH => [0x44#8]
  | .ldBL => [0x45#8]
  | .ldBMemHl => [0x46#8]
  | .ldBA => [0x47#8]
  | .ldCB => [0x48#8]
  | .ldCC => [0x49#8]
  | .ldCD => [0x4A#8]
  | .ldCE => [0x4B#8]
  | .ldCH => [0x4C#8]
  | .ldCL => [0x4D#8]
  | .ldCMemHl => [0x4E#8]
  | .ldCA => [0x4F#8]
  | .ldDB => [0x50#8]
  | .ldDC => [0x51#8]
  | .ldDD => [0x52#8]
  | .ldDE => [0x53#8]
  | .ldDH => [0x54#8]
  | .ldDL => [0x55#8]
  | .ldDMemHl => [0x56#8]
  | .ldDA => [0x57#8]
  | .ldEB => [0x58#8]
  | .ldEC => [0x59#8]
  | .ldED => [0x5A#8]
  | .ldEE => [0x5B#8]
  | .ldEH => [0x5C#8]
  | .ldEL => [0x5D#8]
  | .ldEMemHl => [0x5E#8]
  | .ldEA => [0x5F#8]
  | .ldHB => [0x60#8]
  | .ldHC => [0x61#8]
  | .ldHD => [0x62#8]
  | .ldHE => [0x63#8]
  | .ldHH => [0x64#8]
  | .ldHL => [0x65#8]
  | .ldHMemHl => [0x66#8]
  | .ldHA => [0x67#8]
  | .ldLB => [0x68#8]
  | .ldLC => [0x69#8]
  | .ldLD => [0x6A#8]
  | .ldLE => [0x6B#8]
  | .ldLH => [0x6C#8]
  | .ldLL => [0x6D#8]
  | .ldLMemHl => [0x6E#8]
  | .ldLA => [0x6F#8]
  | .ldMemHlB => [0x70#8]
  | .ldMemHlC => [0x71#8]
  | .ldMemHlD => [0x72#8]
  | .ldMemHlE => [0x73#8]
  | .ldMemHlH => [0x74#8]
  | .ldMemHlL => [0x75#8]
  | .halt => [0x76#8]
  | .ldMemHlA => [0x77#8]
  | .ldAB => [0x78#8]
  | .ldAC => [0x79#8]
  | .ldAD => [0x7A#8]
  | .ldAE => [0x7B#8]
  | .ldAH => [0x7C#8]
  | .ldAL => [0x7D#8]
  | .ldAMemHl => [0x7E#8]
  | .ldAA => [0x7F#8]
  | .addAB => [0x80#8]
  | .addAC => [0x81#8]
  | .addAD => [0x82#8]
  | .addAE => [0x83#8]
  | .addAH => [0x84#8]
  | .addAL => [0x85#8]
  | .addAMemHl => [0x86#8]
  | .addAA => [0x87#8]
  | .adcAB => [0x88#8]
  | .adcAC => [0x89#8]
  | .adcAD => [0x8A#8]
  | .adcAE => [0x8B#8]
  | .adcAH => [0x8C#8]
  | .adcAL => [0x8D#8]
  | .adcAMemHl => [0x8E#8]
  | .adcAA => [0x8F#8]
  | .subB => [0x90#8]
  | .subC => [0x91#8]
  | .subD => [0x92#8]
  | .subE => [0x93#8]
  | .subH => [0x94#8]
  | .subL => [0x95#8]
  | .subMemHl => [0x96#8]
  | .subA => [0x97#8]
  | .sbcAB => [0x98#8]
  | .sbcAC => [0x99#8]
  | .sbcAD => [0x9A#8]
  | .sbcAE => [0x9B#8]
  | .sbcAH => [0x9C#8]
  | .sbcAL => [0x9D#8]
  | .sbcAMemHl => [0x9E#8]
  | .sbcAA => [0x9F#8]
  | .andB => [0xA0#8]
  | .andC => [0xA1#8]
  | .andD => [0xA2#8]
  | .andE => [0xA3#8]
  | .andH => [0xA4#8]
  | .andL => [0xA5#8]
  | .andMemHl => [0xA6#8]
  | .andA => [0xA7#8]
  | .xorB => [0xA8#8]
  | .xorC => [0xA9#8]
  | .xorD => [0xAA#8]
  | .xorE => [0xAB#8]
  | .xorH => [0xAC#8]
  | .xorL => [0xAD#8]
  | .xorMemHl => [0xAE#8]
  | .xorA => [0xAF#8]
  | .orB => [0xB0#8]
  | .orC => [0xB1#8]
  | .orD => [0xB2#8]
  | .orE => [0xB3#8]
  | .orH => [0xB4#8]
  | .orL => [0xB5#8]
  | .orMemHl => [0xB6#8]
  | .orA => [0xB7#8]
  | .cpB => [0xB8#8]
  | .cpC => [0xB9#8]
  | .cpD => [0xBA#8]
  | .cpE => [0xBB#8]
  | .cpH => [0xBC#8]
  | .cpL => [0xBD#8]
  | .cpMemHl => [0xBE#8]
  | .cpA => [0xBF#8]
  | .retNz => [0xC0#8]
  | .popBc => [0xC1#8]
  | .jpNzNn nn => [0xC2#8, loByte nn, hiByte nn]
  | .jpNn nn => [0xC3#8, loByte nn, hiByte nn]
  | .callNzNn nn => [0xC4#8, loByte nn, hiByte nn]
  | .pushBc => [0xC5#8]
  | .addAN n => [0xC6#8, n]
  | .rst00 => [0xC7#8]
  | .retZ => [0xC8#8]
  | .ret => [0xC9#8]
  | .jpZNn nn => [0xCA#8, loByte nn, hiByte nn]
  | .prefixCb => [0xCB#8]
  | .callZNn nn => [0xCC#8, loByte nn, hiByte nn]
  | .callNn nn => [0xCD#8, loByte nn, hiByte nn]
  | .adcAN n => [0xCE#8, n]
  | .rst08 => [0xCF#8]
  | .retNc => [0xD0#8]
  | .popDe => [0xD1#8]
  | .jpNcNn nn => [0xD2#8, loByte nn, hiByte nn]
  | .illegalD3 => [0xD3#8]
  | .callNcNn nn => [0xD4#8, loByte nn, hiByte nn]
  | .pushDe => [0xD5#8]
  | .subN n => [0xD6#8, n]
  | .rst10 => [0xD7#8]
  | .retC => [0xD8#8]
  | .reti => [0xD9#8]
  | .jpCNn nn => [0xDA#8, loByte nn, hiByte nn]
  | .illegalDB => [0xDB#8]
  | .callCNn nn => [0xDC#8, loByte nn, hiByte nn]
  | .illegalDD => [0xDD#8]
  | .sbcAN n => [0xDE#8, n]
  | .rst18 => [0xDF#8]
  | .ldhMemNA n => [0xE0#8, n]
  | .popHl => [0xE1#8]
  | .ldhMemCA => [0xE2#8]
  | .illegalE3 => [0xE3#8]
  | .illegalE4 => [0xE4#8]
  | .pushHl => [0xE5#8]
  | .andN n => [0xE6#8, n]
  | .rst20 => [0xE7#8]
  | .addSpE e => [0xE8#8, e]
  | .jpHl => [0xE9#8]
  | .ldMemNnA nn => [0xEA#8, loByte nn, hiByte nn]
  | .illegalEB => [0xEB#8]
  | .illegalEC => [0xEC#8]
  | .illegalED => [0xED#8]
  | .xorN n => [0xEE#8, n]
  | .rst28 => [0xEF#8]
  | .ldhAMemN n => [0xF0#8, n]
  | .popAf => [0xF1#8]
  | .ldhAMemC => [0xF2#8]
  | .di => [0xF3#8]
  | .illegalF4 => [0xF4#8]
  | .pushAf => [0xF5#8]
  | .orN n => [0xF6#8, n]
  | .rst30 => [0xF7#8]
  | .ldHlSpE e => [0xF8#8, e]
  | .ldSpHl => [0xF9#8]
  | .ldAMemNn nn => [0xFA#8, loByte nn, hiByte nn]
  | .ei => [0xFB#8]
  | .illegalFC => [0xFC#8]
  | .illegalFD => [0xFD#8]
  | .cpN n => [0xFE#8, n]
  | .rst38 => [0xFF#8]
  | .rlcB => [0xCB#8, 0x00#8]
  | .rlcC => [0xCB#8, 0x01#8]
  | .rlcD => [0xCB#8, 0x02#8]
  | .rlcE => [0xCB#8, 0x03#8]
  | .rlcH => [0xCB#8, 0x04#8]
  | .rlcL => [0xCB#8, 0x05#8]
  | .rlcMemHl => [0xCB#8, 0x06#8]
  | .rlcA => [0xCB#8, 0x07#8]
  | .rrcB => [0xCB#8, 0x08#8]
  | .rrcC => [0xCB#8, 0x09#8]
  | .rrcD => [0xCB#8, 0x0A#8]
  | .rrcE => [0xCB#8, 0x0B#8]
  | .rrcH => [0xCB#8, 0x0C#8]
  | .rrcL => [0xCB#8, 0x0D#8]
  | .rrcMemHl => [0xCB#8, 0x0E#8]
  | .rrcA => [0xCB#8, 0x0F#8]
  | .rlB => [0xCB#8, 0x10#8]
  | .rlC => [0xCB#8, 0x11#8]
  | .rlD => [0xCB#8, 0x12#8]
  | .rlE => [0xCB#8, 0x13#8]
  | .rlH => [0xCB#8, 0x14#8]
  | .rlL => [0xCB#8, 0x15#8]
  | .rlMemHl => [0xCB#8, 0x16#8]
  | .rlA => [0xCB#8, 0x17#8]
  | .rrB => [0xCB#8, 0x18#8]
  | .rrC => [0xCB#8, 0x19#8]
  | .rrD => [0xCB#8, 0x1A#8]
  | .rrE => [0xCB#8, 0x1B#8]
  | .rrH => [0xCB#8, 0x1C#8]
  | .rrL => [0xCB#8, 0x1D#8]
  | .rrMemHl => [0xCB#8, 0x1E#8]
  | .rrA => [0xCB#8, 0x1F#8]
  | .slaB => [0xCB#8, 0x20#8]
  | .slaC => [0xCB#8, 0x21#8]
  | .slaD => [0xCB#8, 0x22#8]
  | .slaE => [0xCB#8, 0x23#8]
  | .slaH => [0xCB#8, 0x24#8]
  | .slaL => [0xCB#8, 0x25#8]
  | .slaMemHl => [0xCB#8, 0x26#8]
  | .slaA => [0xCB#8, 0x27#8]
  | .sraB => [0xCB#8, 0x28#8]
  | .sraC => [0xCB#8, 0x29#8]
  | .sraD => [0xCB#8, 0x2A#8]
  | .sraE => [0xCB#8, 0x2B#8]
  | .sraH => [0xCB#8, 0x2C#8]
  | .sraL => [0xCB#8, 0x2D#8]
  | .sraMemHl => [0xCB#8, 0x2E#8]
  | .sraA => [0xCB#8, 0x2F#8]
  | .swapB => [0xCB#8, 0x30#8]
  | .swapC => [0xCB#8, 0x31#8]
  | .swapD => [0xCB#8, 0x32#8]
  | .swapE => [0xCB#8, 0x33#8]
  | .swapH => [0xCB#8, 0x34#8]
  | .swapL => [0xCB#8, 0x35#8]
  | .swapMemHl => [0xCB#8, 0x36#8]
  | .swapA => [0xCB#8, 0x37#8]
  | .srlB => [0xCB#8, 0x38#8]
  | .srlC => [0xCB#8, 0x39#8]
  | .srlD => [0xCB#8, 0x3A#8]
  | .srlE => [0xCB#8, 0x3B#8]
  | .srlH => [0xCB#8, 0x3C#8]
  | .srlL => [0xCB#8, 0x3D#8]
  | .srlMemHl => [0xCB#8, 0x3E#8]
  | .srlA => [0xCB#8, 0x3F#8]
  | .bit0B => [0xCB#8, 0x40#8]
  | .bit0C => [0xCB#8, 0x41#8]
  | .bit0D => [0xCB#8, 0x42#8]
  | .bit0E => [0xCB#8, 0x43#8]
  | .bit0H => [0xCB#8, 0x44#8]
  | .bit0L => [0xCB#8, 0x45#8]
  | .bit0MemHl => [0xCB#8, 0x46#8]
  | .bit0A => [0xCB#8, 0x47#8]
  | .bit1B => [0xCB#8, 0x48#8]
  | .bit1C => [0xCB#8, 0x49#8]
  | .bit1D => [0xCB#8, 0x4A#8]
  | .bit1E => [0xCB#8, 0x4B#8]
  | .bit1H => [0xCB#8, 0x4C#8]
  | .bit1L => [0xCB#8, 0x4D#8]
  | .bit1MemHl => [0xCB#8, 0x4E#8]
  | .bit1A => [0xCB#8, 0x4F#8]
  | .bit2B => [0xCB#8, 0x50#8]
  | .bit2C => [0xCB#8, 0x51#8]
  | .bit2D => [0xCB#8, 0x52#8]
  | .bit2E => [0xCB#8, 0x53#8]
  | .bit2H => [0xCB#8, 0x54#8]
  | .bit2L => [0xCB#8, 0x55#8]
  | .bit2MemHl => [0xCB#8, 0x56#8]
  | .bit2A => [0xCB#8, 0x57#8]
  | .bit3B => [0xCB#8, 0x58#8]
  | .bit3C => [0xCB#8, 0x59#8]
  | .bit3D => [0xCB#8, 0x5A#8]
  | .bit3E => [0xCB#8, 0x5B#8]
  | .bit3H => [0xCB#8, 0x5C#8]
  | .bit3L => [0xCB#8, 0x5D#8]
  | .bit3MemHl => [0xCB#8, 0x5E#8]
  | .bit3A => [0xCB#8, 0x5F#8]
  | .bit4B => [0xCB#8, 0x60#8]
  | .bit4C => [0xCB#8, 0x61#8]
  | .bit4D => [0xCB#8, 0x62#8]
  | .bit4E => [0xCB#8, 0x63#8]
  | .bit4H => [0xCB#8, 0x64#8]
  | .bit4L => [0xCB#8, 0x65#8]
  | .bit4MemHl => [0xCB#8, 0x66#8]
  | .bit4A => [0xCB#8, 0x67#8]
  | .bit5B => [0xCB#8, 0x68#8]
  | .bit5C => [0xCB#8, 0x69#8]
  | .bit5D => [0xCB#8, 0x6A#8]
  | .bit5E => [0xCB#8, 0x6B#8]
  | .bit5H => [0xCB#8, 0x6C#8]
  | .bit5L => [0xCB#8, 0x6D#8]
  | .bit5MemHl => [0xCB#8, 0x6E#8]
  | .bit5A => [0xCB#8, 0x6F#8]
  | .bit6B => [0xCB#8, 0x70#8]
  | .bit6C => [0xCB#8, 0x71#8]
  | .bit6D => [0xCB#8, 0x72#8]
  | .bit6E => [0xCB#8, 0x73#8]
  | .bit6H => [0xCB#8, 0x74#8]
  | .bit6L => [0xCB#8, 0x75#8]
  | .bit6MemHl => [0xCB#8, 0x76#8]
  | .bit6A => [0xCB#8, 0x77#8]
  | .bit7B => [0xCB#8, 0x78#8]
  | .bit7C => [0xCB#8, 0x79#8]
  | .bit7D => [0xCB#8, 0x7A#8]
  | .bit7E => [0xCB#8, 0x7B#8]
  | .bit7H => [0xCB#8, 0x7C#8]
  | .bit7L => [0xCB#8, 0x7D#8]
  | .bit7MemHl => [0xCB#8, 0x7E#8]
  | .bit7A => [0xCB#8, 0x7F#8]
  | .res0B => [0xCB#8, 0x80#8]
  | .res0C => [0xCB#8, 0x81#8]
  | .res0D => [0xCB#8, 0x82#8]
  | .res0E => [0xCB#8, 0x83#8]
  | .res0H => [0xCB#8, 0x84#8]
  | .res0L => [0xCB#8, 0x85#8]
  | .res0MemHl => [0xCB#8, 0x86#8]
  | .res0A => [0xCB#8, 0x87#8]
  | .res1B => [0xCB#8, 0x88#8]
  | .res1C => [0xCB#8, 0x89#8]
  | .res1D => [0xCB#8, 0x8A#8]
  | .res1E => [0xCB#8, 0x8B#8]
  | .res1H => [0xCB#8, 0x8C#8]
  | .res1L => [0xCB#8, 0x8D#8]
  | .res1MemHl => [0xCB#8, 0x8E#8]
  | .res1A => [0xCB#8, 0x8F#8]
  | .res2B => [0xCB#8, 0x90#8]
  | .res2C => [0xCB#8, 0x91#8]
  | .res2D => [0xCB#8, 0x92#8]
  | .res2E => [0xCB#8, 0x93#8]
  | .res2H => [0xCB#8, 0x94#8]
  | .res2L => [0xCB#8, 0x95#8]
  | .res2MemHl => [0xCB#8, 0x96#8]
  | .res2A => [0xCB#8, 0x97#8]
  | .res3B => [0xCB#8, 0x98#8]
  | .res3C => [0xCB#8, 0x99#8]
  | .res3D => [0xCB#8, 0x9A#8]
  | .res3E => [0xCB#8, 0x9B#8]
  | .res3H => [0xCB#8, 0x9C#8]
  | .res3L => [0xCB#8, 0x9D#8]
  | .res3MemHl => [0xCB#8, 0x9E#8]
  | .res3A => [0xCB#8, 0x9F#8]
  | .res4B => [0xCB#8, 0xA0#8]
  | .res4C => [0xCB#8, 0xA1#8]
  | .res4D => [0xCB#8, 0xA2#8]
  | .res4E => [0xCB#8, 0xA3#8]
  | .res4H => [0xCB#8, 0xA4#8]
  | .res4L => [0xCB#8, 0xA5#8]
  | .res4MemHl => [0xCB#8, 0xA6#8]
  | .res4A => [0xCB#8, 0xA7#8]
  | .res5B => [0xCB#8, 0xA8#8]
  | .res5C => [0xCB#8, 0xA9#8]
  | .res5D => [0xCB#8, 0xAA#8]
  | .res5E => [0xCB#8, 0xAB#8]
  | .res5H => [0xCB#8, 0xAC#8]
  | .res5L => [0xCB#8, 0xAD#8]
  | .res5MemHl => [0xCB#8, 0xAE#8]
  | .res5A => [0xCB#8, 0xAF#8]
  | .res6B => [0xCB#8, 0xB0#8]
  | .res6C => [0xCB#8, 0xB1#8]
  | .res6D => [0xCB#8, 0xB2#8]
  | .res6E => [0xCB#8, 0xB3#8]
  | .res6H => [0xCB#8, 0xB4#8]
  | .res6L => [0xCB#8, 0xB5#8]
  | .res6MemHl => [0xCB#8, 0xB6#8]
  | .res6A => [0xCB#8, 0xB7#8]
  | .res7B => [0xCB#8, 0xB8#8]
  | .res7C => [0xCB#8, 0xB9#8]
  | .res7D => [0xCB#8, 0xBA#8]
  | .res7E => [0xCB#8, 0xBB#8]
  | .res7H => [0xCB#8, 0xBC#8]
  | .res7L => [0xCB#8, 0xBD#8]
  | .res7MemHl => [0xCB#8, 0xBE#8]
  | .res7A => [0xCB#8, 0xBF#8]
  | .set0B => [0xCB#8, 0xC0#8]
  | .set0C => [0xCB#8, 0xC1#8]
  | .set0D => [0xCB#8, 0xC2#8]
  | .set0E => [0xCB#8, 0xC3#8]
  | .set0H => [0xCB#8, 0xC4#8]
  | .set0L => [0xCB#8, 0xC5#8]
  | .set0MemHl => [0xCB#8, 0xC6#8]
  | .set0A => [0xCB#8, 0xC7#8]
  | .set1B => [0xCB#8, 0xC8#8]
  | .set1C => [0xCB#8, 0xC9#8]
  | .set1D => [0xCB#8, 0xCA#8]
  | .set1E => [0xCB#8, 0xCB#8]
  | .set1H => [0xCB#8, 0xCC#8]
  | .set1L => [0xCB#8, 0xCD#8]
  | .set1MemHl => [0xCB#8, 0xCE#8]
  | .set1A => [0xCB#8, 0xCF#8]
  | .set2B => [0xCB#8, 0xD0#8]
  | .set2C => [0xCB#8, 0xD1#8]
  | .set2D => [0xCB#8, 0xD2#8]
  | .set2E => [0xCB#8, 0xD3#8]
  | .set2H => [0xCB#8, 0xD4#8]
  | .set2L => [0xCB#8, 0xD5#8]
  | .set2MemHl => [0xCB#8, 0xD6#8]
  | .set2A => [0xCB#8, 0xD7#8]
  | .set3B => [0xCB#8, 0xD8#8]
  | .set3C => [0xCB#8, 0xD9#8]
  | .set3D => [0xCB#8, 0xDA#8]
  | .set3E => [0xCB#8, 0xDB#8]
  | .set3H => [0xCB#8, 0xDC#8]
  | .set3L => [0xCB#8, 0xDD#8]
  | .set3MemHl => [0xCB#8, 0xDE#8]
  | .set3A => [0xCB#8, 0xDF#8]
  | .set4B => [0xCB#8, 0xE0#8]
  | .set4C => [0xCB#8, 0xE1#8]
  | .set4D => [0xCB#8, 0xE2#8]
  | .set4E => [0xCB#8, 0xE3#8]
  | .set4H => [0xCB#8, 0xE4#8]
  | .set4L => [0xCB#8, 0xE5#8]
  | .set4MemHl => [0xCB#8, 0xE6#8]
  | .set4A => [0xCB#8, 0xE7#8]
  | .set5B => [0xCB#8, 0xE8#8]
  | .set5C => [0xCB#8, 0xE9#8]
  | .set5D => [0xCB#8, 0xEA#8]
  | .set5E => [0xCB#8, 0xEB#8]
  | .set5H => [0xCB#8, 0xEC#8]
  | .set5L => [0xCB#8, 0xED#8]
  | .set5MemHl => [0xCB#8, 0xEE#8]
  | .set5A => [0xCB#8, 0xEF#8]
  | .set6B => [0xCB#8, 0xF0#8]
  | .set6C => [0xCB#8, 0xF1#8]
  | .set6D => [0xCB#8, 0xF2#8]
  | .set6E => [0xCB#8, 0xF3#8]
  | .set6H => [0xCB#8, 0xF4#8]
  | .set6L => [0xCB#8, 0xF5#8]
  | .set6MemHl => [0xCB#8, 0xF6#8]
  | .set6A => [0xCB#8, 0xF7#8]
  | .set7B => [0xCB#8, 0xF8#8]
  | .set7C => [0xCB#8, 0xF9#8]
  | .set7D => [0xCB#8, 0xFA#8]
  | .set7E => [0xCB#8, 0xFB#8]
  | .set7H => [0xCB#8, 0xFC#8]
  | .set7L => [0xCB#8, 0xFD#8]
  | .set7MemHl => [0xCB#8, 0xFE#8]
  | .set7A => [0xCB#8, 0xFF#8]

/-- The bytes of one row of spec/opcode_table.json whose bits are `w`, `nbits` of them. A row of 16 bits is a CB-page row,
numbered as the value `byte0 ++ byte1` (30_encoding R190), so byte 0, which is `0xCB`, is its high byte; otherwise the
first byte is the low one (log entry 7). -/
def tableBytes (nbits w : Nat) : List Byte :=
  if nbits = 16 ∧ w / 256 = 0xCB then [0xCB#8, BitVec.ofNat 8 w]
  else (List.range ((nbits + 7) / 8)).map fun k => BitVec.ofNat 8 (w / 2 ^ (8 * k))

/-- The instruction the decoder reads from a table row's bytes; where they are too few, the operand bytes the table gives
no bits are zero. -/
def decodeTableWord (nbits w : Nat) : Option Instr :=
  match decode (tableBytes nbits w) with
  | .ok (i, _) => some i
  | .error _ =>
    match decode (tableBytes nbits w ++ [0#8, 0#8]) with
    | .ok (i, _) => some i
    | .error _ => none

end Sys2Proof
end

