-- ==== Sys2Proof/Machine/Forms.lean ====
section
/-! DEFINITION. The operand code tables of 30_encoding R166 to R172 and the generic forms of the instruction set (column
`generic` of the opcode table): `Instr.form` says which form and which operands each of the 512 instructions has. -/

namespace Sys2Proof

/-- The seven directly addressable 8-bit registers (30_encoding R166 without code 6). -/
inductive Reg8 where
  | b | c | d | e | h | l | a
  deriving DecidableEq, Repr

/-- An 8-bit operand (30_encoding R166): a register, or code 6, the memory byte at `HL`. -/
inductive Opnd where
  | reg (r : Reg8)
  | memHl
  deriving DecidableEq, Repr

/-- The second operand of the eight accumulator operations (42_alu8 R260): a register, the byte at `HL`, or an immediate. -/
inductive Src where
  | reg (r : Reg8)
  | memHl
  | imm (n : Byte)
  deriving DecidableEq, Repr

/-- Register pairs of the 16-bit loads and arithmetic (30_encoding R167). -/
inductive Pair where
  | bc | de | hl | sp
  deriving DecidableEq, Repr

/-- Register pairs of `PUSH` and `POP` (30_encoding R168). -/
inductive StackPair where
  | bc | de | hl | af
  deriving DecidableEq, Repr

/-- Condition codes (30_encoding R169). -/
inductive Cond where
  | nz | z | nc | c
  deriving DecidableEq, Repr

/-- Arithmetic and logic operations (30_encoding R170). -/
inductive AluOp where
  | add | adc | sub | sbc | and | xor | or | cp
  deriving DecidableEq, Repr

/-- Rotate and shift operations of the CB page (30_encoding R171). -/
inductive RotOp where
  | rlc | rrc | rl | rr | sla | sra | swap | srl
  deriving DecidableEq, Repr

/-- The 3-bit code of a register (30_encoding R166). -/
def Reg8.code (r : Reg8) : BitVec 3 :=
  match r with
  | .b => 0#3
  | .c => 1#3
  | .d => 2#3
  | .e => 3#3
  | .h => 4#3
  | .l => 5#3
  | .a => 7#3

/-- The 3-bit code of an 8-bit operand (30_encoding R166). -/
def Opnd.code (o : Opnd) : BitVec 3 :=
  match o with
  | .reg r => r.code
  | .memHl => 6#3

/-- The operand a 3-bit code names (30_encoding R166). -/
def Opnd.ofCode (k : BitVec 3) : Opnd :=
  match k.toNat with
  | 0 => .reg .b
  | 1 => .reg .c
  | 2 => .reg .d
  | 3 => .reg .e
  | 4 => .reg .h
  | 5 => .reg .l
  | 6 => .memHl
  | _ => .reg .a

/-- The accumulator operations' operand of the forms `r` and `(HL)` (42_alu8 R260). -/
def Opnd.toSrc (o : Opnd) : Src :=
  match o with
  | .reg r => .reg r
  | .memHl => .memHl

/-- The 2-bit code of a pair (30_encoding R167). -/
def Pair.code (p : Pair) : BitVec 2 :=
  match p with
  | .bc => 0#2
  | .de => 1#2
  | .hl => 2#2
  | .sp => 3#2

/-- The 2-bit code of a stack pair (30_encoding R168). -/
def StackPair.code (p : StackPair) : BitVec 2 :=
  match p with
  | .bc => 0#2
  | .de => 1#2
  | .hl => 2#2
  | .af => 3#2

/-- The 2-bit code of a condition (30_encoding R169). -/
def Cond.code (k : Cond) : BitVec 2 :=
  match k with
  | .nz => 0#2
  | .z => 1#2
  | .nc => 2#2
  | .c => 3#2

/-- The 3-bit code of an arithmetic or logic operation (30_encoding R170). -/
def AluOp.code (op : AluOp) : BitVec 3 :=
  match op with
  | .add => 0#3
  | .adc => 1#3
  | .sub => 2#3
  | .sbc => 3#3
  | .and => 4#3
  | .xor => 5#3
  | .or => 6#3
  | .cp => 7#3

/-- The 3-bit code of a rotate or shift operation (30_encoding R171). -/
def RotOp.code (op : RotOp) : BitVec 3 :=
  match op with
  | .rlc => 0#3
  | .rrc => 1#3
  | .rl => 2#3
  | .rr => 3#3
  | .sla => 4#3
  | .sra => 5#3
  | .swap => 6#3
  | .srl => 7#3

/-- The rotate or shift operation a 3-bit code names (30_encoding R171). -/
def RotOp.ofCode (k : BitVec 3) : RotOp :=
  match k.toNat with
  | 0 => .rlc
  | 1 => .rrc
  | 2 => .rl
  | 3 => .rr
  | 4 => .sla
  | 5 => .sra
  | 6 => .swap
  | _ => .srl

/-- The generic forms of the instruction set, each with its operands. -/
inductive Form where
  /-- `LD r,r'` (R200) -/
  | ldRegReg (dst src : Reg8)
  /-- `LD r,n` (R201) -/
  | ldRegImm (dst : Reg8) (n : Byte)
  /-- `LD r,(HL)` (R202) -/
  | ldRegMem (dst : Reg8)
  /-- `LD (HL),r` (R203) -/
  | ldMemReg (src : Reg8)
  /-- `LD (HL),n` (R204) -/
  | ldMemImm (n : Byte)
  /-- `LD A,(BC)` (R205) -/
  | ldABc
  /-- `LD A,(DE)` (R206) -/
  | ldADe
  /-- `LD (BC),A` (R207) -/
  | ldBcA
  /-- `LD (DE),A` (R208) -/
  | ldDeA
  /-- `LD A,(nn)` (R209) -/
  | ldANn (nn : Word)
  /-- `LD (nn),A` (R210) -/
  | ldNnA (nn : Word)
  /-- `LDH A,(C)` (R211) -/
  | ldhAC
  /-- `LDH (C),A` (R212) -/
  | ldhCA
  /-- `LDH A,(n)` (R213) -/
  | ldhAN (n : Byte)
  /-- `LDH (n),A` (R214) -/
  | ldhNA (n : Byte)
  /-- `LD A,(HL-)` (R215) -/
  | ldADec
  /-- `LD (HL-),A` (R216) -/
  | ldDecA
  /-- `LD A,(HL+)` (R217) -/
  | ldAInc
  /-- `LD (HL+),A` (R218) -/
  | ldIncA
  /-- `LD rr,nn` (R240) -/
  | ldPairImm (p : Pair) (nn : Word)
  /-- `LD (nn),SP` (R241) -/
  | ldNnSp (nn : Word)
  /-- `LD SP,HL` (R242) -/
  | ldSpHl
  /-- `LD HL,SP+e` (R243) -/
  | ldHlSp (e : Byte)
  /-- `PUSH rr` (R244) -/
  | push (p : StackPair)
  /-- `POP rr` (R245) -/
  | pop (p : StackPair)
  /-- the eight accumulator operations (R260 to R268) -/
  | alu (op : AluOp) (src : Src)
  /-- `INC r`, `INC (HL)` (R269, R270) -/
  | inc (o : Opnd)
  /-- `DEC r`, `DEC (HL)` (R271, R272) -/
  | dec (o : Opnd)
  /-- `DAA` (R273) -/
  | daa
  /-- `CPL` (R274) -/
  | cpl
  /-- `SCF` (R275) -/
  | scf
  /-- `CCF` (R276) -/
  | ccf
  /-- `ADD HL,rr` (R300) -/
  | addHl (p : Pair)
  /-- `INC rr` (R301) -/
  | incPair (p : Pair)
  /-- `DEC rr` (R302) -/
  | decPair (p : Pair)
  /-- `ADD SP,e` (R303) -/
  | addSp (e : Byte)
  /-- `RLCA` (R310) -/
  | rlca
  /-- `RRCA` (R311) -/
  | rrca
  /-- `RLA` (R312) -/
  | rla
  /-- `RRA` (R313) -/
  | rra
  /-- the CB page's rotates and shifts (R315 to R322) -/
  | rot (op : RotOp) (o : Opnd)
  /-- `BIT b,s` (R323) -/
  | bit (k : BitVec 3) (o : Opnd)
  /-- `RES b,s` (R324) -/
  | res (k : BitVec 3) (o : Opnd)
  /-- `SET b,s` (R325) -/
  | set (k : BitVec 3) (o : Opnd)
  /-- `JP nn` (R341) -/
  | jp (nn : Word)
  /-- `JP cc,nn` (R342) -/
  | jpCond (k : Cond) (nn : Word)
  /-- `JP HL` (R343) -/
  | jpHl
  /-- `JR e` (R344) -/
  | jr (e : Byte)
  /-- `JR cc,e` (R345) -/
  | jrCond (k : Cond) (e : Byte)
  /-- `CALL nn` (R346) -/
  | call (nn : Word)
  /-- `CALL cc,nn` (R347) -/
  | callCond (k : Cond) (nn : Word)
  /-- `RET` (R348) -/
  | ret
  /-- `RET cc` (R349) -/
  | retCond (k : Cond)
  /-- `RETI` (R350) -/
  | reti
  /-- `RST t` (R351), `t = 8 * k` -/
  | rst (k : BitVec 3)
  /-- `NOP` (R370) -/
  | nop
  /-- `HALT` (R371) -/
  | halt
  /-- `STOP` and its ignored second byte (R372) -/
  | stop (n : Byte)
  /-- `DI` (R373) -/
  | di
  /-- `EI` (R374) -/
  | ei
  /-- the prefix byte alone (R375) -/
  | prefixCb
  /-- an undefined opcode (R376) -/
  | illegal (op : Byte)
  deriving DecidableEq, Repr

/-- The generic form of each instruction: the columns `generic` and `source_fields` of the opcode table. -/
def Instr.form (i : Instr) : Form :=
  match i with
  | .nop => .nop
  | .ldBcNn nn => .ldPairImm .bc nn
  | .ldMemBcA => .ldBcA
  | .incBc => .incPair .bc
  | .incB => .inc (.reg .b)
  | .decB => .dec (.reg .b)
  | .ldBN n => .ldRegImm .b n
  | .rlca => .rlca
  | .ldMemNnSp nn => .ldNnSp nn
  | .addHlBc => .addHl .bc
  | .ldAMemBc => .ldABc
  | .decBc => .decPair .bc
  | .incC => .inc (.reg .c)
  | .decC => .dec (.reg .c)
  | .ldCN n => .ldRegImm .c n
  | .rrca => .rrca
  | .stop n => .stop n
  | .ldDeNn nn => .ldPairImm .de nn
  | .ldMemDeA => .ldDeA
  | .incDe => .incPair .de
  | .incD => .inc (.reg .d)
  | .decD => .dec (.reg .d)
  | .ldDN n => .ldRegImm .d n
  | .rla => .rla
  | .jrE e => .jr e
  | .addHlDe => .addHl .de
  | .ldAMemDe => .ldADe
  | .decDe => .decPair .de
  | .incE => .inc (.reg .e)
  | .decE => .dec (.reg .e)
  | .ldEN n => .ldRegImm .e n
  | .rra => .rra
  | .jrNzE e => .jrCond .nz e
  | .ldHlNn nn => .ldPairImm .hl nn
  | .ldMemHlIncA => .ldIncA
  | .incHl => .incPair .hl
  | .incH => .inc (.reg .h)
  | .decH => .dec (.reg .h)
  | .ldHN n => .ldRegImm .h n
  | .daa => .daa
  | .jrZE e => .jrCond .z e
  | .addHlHl => .addHl .hl
  | .ldAMemHlInc => .ldAInc
  | .decHl => .decPair .hl
  | .incL => .inc (.reg .l)
  | .decL => .dec (.reg .l)
  | .ldLN n => .ldRegImm .l n
  | .cpl => .cpl
  | .jrNcE e => .jrCond .nc e
  | .ldSpNn nn => .ldPairImm .sp nn
  | .ldMemHlDecA => .ldDecA
  | .incSp => .incPair .sp
  | .incMemHl => .inc .memHl
  | .decMemHl => .dec .memHl
  | .ldMemHlN n => .ldMemImm n
  | .scf => .scf
  | .jrCE e => .jrCond .c e
  | .addHlSp => .addHl .sp
  | .ldAMemHlDec => .ldADec
  | .decSp => .decPair .sp
  | .incA => .inc (.reg .a)
  | .decA => .dec (.reg .a)
  | .ldAN n => .ldRegImm .a n
  | .ccf => .ccf
  | .ldBB => .ldRegReg .b .b
  | .ldBC => .ldRegReg .b .c
  | .ldBD => .ldRegReg .b .d
  | .ldBE => .ldRegReg .b .e
  | .ldBH => .ldRegReg .b .h
  | .ldBL => .ldRegReg .b .l
  | .ldBMemHl => .ldRegMem .b
  | .ldBA => .ldRegReg .b .a
  | .ldCB => .ldRegReg .c .b
  | .ldCC => .ldRegReg .c .c
  | .ldCD => .ldRegReg .c .d
  | .ldCE => .ldRegReg .c .e
  | .ldCH => .ldRegReg .c .h
  | .ldCL => .ldRegReg .c .l
  | .ldCMemHl => .ldRegMem .c
  | .ldCA => .ldRegReg .c .a
  | .ldDB => .ldRegReg .d .b
  | .ldDC => .ldRegReg .d .c
  | .ldDD => .ldRegReg .d .d
  | .ldDE => .ldRegReg .d .e
  | .ldDH => .ldRegReg .d .h
  | .ldDL => .ldRegReg .d .l
  | .ldDMemHl => .ldRegMem .d
  | .ldDA => .ldRegReg .d .a
  | .ldEB => .ldRegReg .e .b
  | .ldEC => .ldRegReg .e .c
  | .ldED => .ldRegReg .e .d
  | .ldEE => .ldRegReg .e .e
  | .ldEH => .ldRegReg .e .h
  | .ldEL => .ldRegReg .e .l
  | .ldEMemHl => .ldRegMem .e
  | .ldEA => .ldRegReg .e .a
  | .ldHB => .ldRegReg .h .b
  | .ldHC => .ldRegReg .h .c
  | .ldHD => .ldRegReg .h .d
  | .ldHE => .ldRegReg .h .e
  | .ldHH => .ldRegReg .h .h
  | .ldHL => .ldRegReg .h .l
  | .ldHMemHl => .ldRegMem .h
  | .ldHA => .ldRegReg .h .a
  | .ldLB => .ldRegReg .l .b
  | .ldLC => .ldRegReg .l .c
  | .ldLD => .ldRegReg .l .d
  | .ldLE => .ldRegReg .l .e
  | .ldLH => .ldRegReg .l .h
  | .ldLL => .ldRegReg .l .l
  | .ldLMemHl => .ldRegMem .l
  | .ldLA => .ldRegReg .l .a
  | .ldMemHlB => .ldMemReg .b
  | .ldMemHlC => .ldMemReg .c
  | .ldMemHlD => .ldMemReg .d
  | .ldMemHlE => .ldMemReg .e
  | .ldMemHlH => .ldMemReg .h
  | .ldMemHlL => .ldMemReg .l
  | .halt => .halt
  | .ldMemHlA => .ldMemReg .a
  | .ldAB => .ldRegReg .a .b
  | .ldAC => .ldRegReg .a .c
  | .ldAD => .ldRegReg .a .d
  | .ldAE => .ldRegReg .a .e
  | .ldAH => .ldRegReg .a .h
  | .ldAL => .ldRegReg .a .l
  | .ldAMemHl => .ldRegMem .a
  | .ldAA => .ldRegReg .a .a
  | .addAB => .alu .add (.reg .b)
  | .addAC => .alu .add (.reg .c)
  | .addAD => .alu .add (.reg .d)
  | .addAE => .alu .add (.reg .e)
  | .addAH => .alu .add (.reg .h)
  | .addAL => .alu .add (.reg .l)
  | .addAMemHl => .alu .add .memHl
  | .addAA => .alu .add (.reg .a)
  | .adcAB => .alu .adc (.reg .b)
  | .adcAC => .alu .adc (.reg .c)
  | .adcAD => .alu .adc (.reg .d)
  | .adcAE => .alu .adc (.reg .e)
  | .adcAH => .alu .adc (.reg .h)
  | .adcAL => .alu .adc (.reg .l)
  | .adcAMemHl => .alu .adc .memHl
  | .adcAA => .alu .adc (.reg .a)
  | .subB => .alu .sub (.reg .b)
  | .subC => .alu .sub (.reg .c)
  | .subD => .alu .sub (.reg .d)
  | .subE => .alu .sub (.reg .e)
  | .subH => .alu .sub (.reg .h)
  | .subL => .alu .sub (.reg .l)
  | .subMemHl => .alu .sub .memHl
  | .subA => .alu .sub (.reg .a)
  | .sbcAB => .alu .sbc (.reg .b)
  | .sbcAC => .alu .sbc (.reg .c)
  | .sbcAD => .alu .sbc (.reg .d)
  | .sbcAE => .alu .sbc (.reg .e)
  | .sbcAH => .alu .sbc (.reg .h)
  | .sbcAL => .alu .sbc (.reg .l)
  | .sbcAMemHl => .alu .sbc .memHl
  | .sbcAA => .alu .sbc (.reg .a)
  | .andB => .alu .and (.reg .b)
  | .andC => .alu .and (.reg .c)
  | .andD => .alu .and (.reg .d)
  | .andE => .alu .and (.reg .e)
  | .andH => .alu .and (.reg .h)
  | .andL => .alu .and (.reg .l)
  | .andMemHl => .alu .and .memHl
  | .andA => .alu .and (.reg .a)
  | .xorB => .alu .xor (.reg .b)
  | .xorC => .alu .xor (.reg .c)
  | .xorD => .alu .xor (.reg .d)
  | .xorE => .alu .xor (.reg .e)
  | .xorH => .alu .xor (.reg .h)
  | .xorL => .alu .xor (.reg .l)
  | .xorMemHl => .alu .xor .memHl
  | .xorA => .alu .xor (.reg .a)
  | .orB => .alu .or (.reg .b)
  | .orC => .alu .or (.reg .c)
  | .orD => .alu .or (.reg .d)
  | .orE => .alu .or (.reg .e)
  | .orH => .alu .or (.reg .h)
  | .orL => .alu .or (.reg .l)
  | .orMemHl => .alu .or .memHl
  | .orA => .alu .or (.reg .a)
  | .cpB => .alu .cp (.reg .b)
  | .cpC => .alu .cp (.reg .c)
  | .cpD => .alu .cp (.reg .d)
  | .cpE => .alu .cp (.reg .e)
  | .cpH => .alu .cp (.reg .h)
  | .cpL => .alu .cp (.reg .l)
  | .cpMemHl => .alu .cp .memHl
  | .cpA => .alu .cp (.reg .a)
  | .retNz => .retCond .nz
  | .popBc => .pop .bc
  | .jpNzNn nn => .jpCond .nz nn
  | .jpNn nn => .jp nn
  | .callNzNn nn => .callCond .nz nn
  | .pushBc => .push .bc
  | .addAN n => .alu .add (.imm n)
  | .rst00 => .rst 0#3
  | .retZ => .retCond .z
  | .ret => .ret
  | .jpZNn nn => .jpCond .z nn
  | .prefixCb => .prefixCb
  | .callZNn nn => .callCond .z nn
  | .callNn nn => .call nn
  | .adcAN n => .alu .adc (.imm n)
  | .rst08 => .rst 1#3
  | .retNc => .retCond .nc
  | .popDe => .pop .de
  | .jpNcNn nn => .jpCond .nc nn
  | .illegalD3 => .illegal 0xD3#8
  | .callNcNn nn => .callCond .nc nn
  | .pushDe => .push .de
  | .subN n => .alu .sub (.imm n)
  | .rst10 => .rst 2#3
  | .retC => .retCond .c
  | .reti => .reti
  | .jpCNn nn => .jpCond .c nn
  | .illegalDB => .illegal 0xDB#8
  | .callCNn nn => .callCond .c nn
  | .illegalDD => .illegal 0xDD#8
  | .sbcAN n => .alu .sbc (.imm n)
  | .rst18 => .rst 3#3
  | .ldhMemNA n => .ldhNA n
  | .popHl => .pop .hl
  | .ldhMemCA => .ldhCA
  | .illegalE3 => .illegal 0xE3#8
  | .illegalE4 => .illegal 0xE4#8
  | .pushHl => .push .hl
  | .andN n => .alu .and (.imm n)
  | .rst20 => .rst 4#3
  | .addSpE e => .addSp e
  | .jpHl => .jpHl
  | .ldMemNnA nn => .ldNnA nn
  | .illegalEB => .illegal 0xEB#8
  | .illegalEC => .illegal 0xEC#8
  | .illegalED => .illegal 0xED#8
  | .xorN n => .alu .xor (.imm n)
  | .rst28 => .rst 5#3
  | .ldhAMemN n => .ldhAN n
  | .popAf => .pop .af
  | .ldhAMemC => .ldhAC
  | .di => .di
  | .illegalF4 => .illegal 0xF4#8
  | .pushAf => .push .af
  | .orN n => .alu .or (.imm n)
  | .rst30 => .rst 6#3
  | .ldHlSpE e => .ldHlSp e
  | .ldSpHl => .ldSpHl
  | .ldAMemNn nn => .ldANn nn
  | .ei => .ei
  | .illegalFC => .illegal 0xFC#8
  | .illegalFD => .illegal 0xFD#8
  | .cpN n => .alu .cp (.imm n)
  | .rst38 => .rst 7#3
  | .rlcB => .rot .rlc (.reg .b)
  | .rlcC => .rot .rlc (.reg .c)
  | .rlcD => .rot .rlc (.reg .d)
  | .rlcE => .rot .rlc (.reg .e)
  | .rlcH => .rot .rlc (.reg .h)
  | .rlcL => .rot .rlc (.reg .l)
  | .rlcMemHl => .rot .rlc .memHl
  | .rlcA => .rot .rlc (.reg .a)
  | .rrcB => .rot .rrc (.reg .b)
  | .rrcC => .rot .rrc (.reg .c)
  | .rrcD => .rot .rrc (.reg .d)
  | .rrcE => .rot .rrc (.reg .e)
  | .rrcH => .rot .rrc (.reg .h)
  | .rrcL => .rot .rrc (.reg .l)
  | .rrcMemHl => .rot .rrc .memHl
  | .rrcA => .rot .rrc (.reg .a)
  | .rlB => .rot .rl (.reg .b)
  | .rlC => .rot .rl (.reg .c)
  | .rlD => .rot .rl (.reg .d)
  | .rlE => .rot .rl (.reg .e)
  | .rlH => .rot .rl (.reg .h)
  | .rlL => .rot .rl (.reg .l)
  | .rlMemHl => .rot .rl .memHl
  | .rlA => .rot .rl (.reg .a)
  | .rrB => .rot .rr (.reg .b)
  | .rrC => .rot .rr (.reg .c)
  | .rrD => .rot .rr (.reg .d)
  | .rrE => .rot .rr (.reg .e)
  | .rrH => .rot .rr (.reg .h)
  | .rrL => .rot .rr (.reg .l)
  | .rrMemHl => .rot .rr .memHl
  | .rrA => .rot .rr (.reg .a)
  | .slaB => .rot .sla (.reg .b)
  | .slaC => .rot .sla (.reg .c)
  | .slaD => .rot .sla (.reg .d)
  | .slaE => .rot .sla (.reg .e)
  | .slaH => .rot .sla (.reg .h)
  | .slaL => .rot .sla (.reg .l)
  | .slaMemHl => .rot .sla .memHl
  | .slaA => .rot .sla (.reg .a)
  | .sraB => .rot .sra (.reg .b)
  | .sraC => .rot .sra (.reg .c)
  | .sraD => .rot .sra (.reg .d)
  | .sraE => .rot .sra (.reg .e)
  | .sraH => .rot .sra (.reg .h)
  | .sraL => .rot .sra (.reg .l)
  | .sraMemHl => .rot .sra .memHl
  | .sraA => .rot .sra (.reg .a)
  | .swapB => .rot .swap (.reg .b)
  | .swapC => .rot .swap (.reg .c)
  | .swapD => .rot .swap (.reg .d)
  | .swapE => .rot .swap (.reg .e)
  | .swapH => .rot .swap (.reg .h)
  | .swapL => .rot .swap (.reg .l)
  | .swapMemHl => .rot .swap .memHl
  | .swapA => .rot .swap (.reg .a)
  | .srlB => .rot .srl (.reg .b)
  | .srlC => .rot .srl (.reg .c)
  | .srlD => .rot .srl (.reg .d)
  | .srlE => .rot .srl (.reg .e)
  | .srlH => .rot .srl (.reg .h)
  | .srlL => .rot .srl (.reg .l)
  | .srlMemHl => .rot .srl .memHl
  | .srlA => .rot .srl (.reg .a)
  | .bit0B => .bit 0#3 (.reg .b)
  | .bit0C => .bit 0#3 (.reg .c)
  | .bit0D => .bit 0#3 (.reg .d)
  | .bit0E => .bit 0#3 (.reg .e)
  | .bit0H => .bit 0#3 (.reg .h)
  | .bit0L => .bit 0#3 (.reg .l)
  | .bit0MemHl => .bit 0#3 .memHl
  | .bit0A => .bit 0#3 (.reg .a)
  | .bit1B => .bit 1#3 (.reg .b)
  | .bit1C => .bit 1#3 (.reg .c)
  | .bit1D => .bit 1#3 (.reg .d)
  | .bit1E => .bit 1#3 (.reg .e)
  | .bit1H => .bit 1#3 (.reg .h)
  | .bit1L => .bit 1#3 (.reg .l)
  | .bit1MemHl => .bit 1#3 .memHl
  | .bit1A => .bit 1#3 (.reg .a)
  | .bit2B => .bit 2#3 (.reg .b)
  | .bit2C => .bit 2#3 (.reg .c)
  | .bit2D => .bit 2#3 (.reg .d)
  | .bit2E => .bit 2#3 (.reg .e)
  | .bit2H => .bit 2#3 (.reg .h)
  | .bit2L => .bit 2#3 (.reg .l)
  | .bit2MemHl => .bit 2#3 .memHl
  | .bit2A => .bit 2#3 (.reg .a)
  | .bit3B => .bit 3#3 (.reg .b)
  | .bit3C => .bit 3#3 (.reg .c)
  | .bit3D => .bit 3#3 (.reg .d)
  | .bit3E => .bit 3#3 (.reg .e)
  | .bit3H => .bit 3#3 (.reg .h)
  | .bit3L => .bit 3#3 (.reg .l)
  | .bit3MemHl => .bit 3#3 .memHl
  | .bit3A => .bit 3#3 (.reg .a)
  | .bit4B => .bit 4#3 (.reg .b)
  | .bit4C => .bit 4#3 (.reg .c)
  | .bit4D => .bit 4#3 (.reg .d)
  | .bit4E => .bit 4#3 (.reg .e)
  | .bit4H => .bit 4#3 (.reg .h)
  | .bit4L => .bit 4#3 (.reg .l)
  | .bit4MemHl => .bit 4#3 .memHl
  | .bit4A => .bit 4#3 (.reg .a)
  | .bit5B => .bit 5#3 (.reg .b)
  | .bit5C => .bit 5#3 (.reg .c)
  | .bit5D => .bit 5#3 (.reg .d)
  | .bit5E => .bit 5#3 (.reg .e)
  | .bit5H => .bit 5#3 (.reg .h)
  | .bit5L => .bit 5#3 (.reg .l)
  | .bit5MemHl => .bit 5#3 .memHl
  | .bit5A => .bit 5#3 (.reg .a)
  | .bit6B => .bit 6#3 (.reg .b)
  | .bit6C => .bit 6#3 (.reg .c)
  | .bit6D => .bit 6#3 (.reg .d)
  | .bit6E => .bit 6#3 (.reg .e)
  | .bit6H => .bit 6#3 (.reg .h)
  | .bit6L => .bit 6#3 (.reg .l)
  | .bit6MemHl => .bit 6#3 .memHl
  | .bit6A => .bit 6#3 (.reg .a)
  | .bit7B => .bit 7#3 (.reg .b)
  | .bit7C => .bit 7#3 (.reg .c)
  | .bit7D => .bit 7#3 (.reg .d)
  | .bit7E => .bit 7#3 (.reg .e)
  | .bit7H => .bit 7#3 (.reg .h)
  | .bit7L => .bit 7#3 (.reg .l)
  | .bit7MemHl => .bit 7#3 .memHl
  | .bit7A => .bit 7#3 (.reg .a)
  | .res0B => .res 0#3 (.reg .b)
  | .res0C => .res 0#3 (.reg .c)
  | .res0D => .res 0#3 (.reg .d)
  | .res0E => .res 0#3 (.reg .e)
  | .res0H => .res 0#3 (.reg .h)
  | .res0L => .res 0#3 (.reg .l)
  | .res0MemHl => .res 0#3 .memHl
  | .res0A => .res 0#3 (.reg .a)
  | .res1B => .res 1#3 (.reg .b)
  | .res1C => .res 1#3 (.reg .c)
  | .res1D => .res 1#3 (.reg .d)
  | .res1E => .res 1#3 (.reg .e)
  | .res1H => .res 1#3 (.reg .h)
  | .res1L => .res 1#3 (.reg .l)
  | .res1MemHl => .res 1#3 .memHl
  | .res1A => .res 1#3 (.reg .a)
  | .res2B => .res 2#3 (.reg .b)
  | .res2C => .res 2#3 (.reg .c)
  | .res2D => .res 2#3 (.reg .d)
  | .res2E => .res 2#3 (.reg .e)
  | .res2H => .res 2#3 (.reg .h)
  | .res2L => .res 2#3 (.reg .l)
  | .res2MemHl => .res 2#3 .memHl
  | .res2A => .res 2#3 (.reg .a)
  | .res3B => .res 3#3 (.reg .b)
  | .res3C => .res 3#3 (.reg .c)
  | .res3D => .res 3#3 (.reg .d)
  | .res3E => .res 3#3 (.reg .e)
  | .res3H => .res 3#3 (.reg .h)
  | .res3L => .res 3#3 (.reg .l)
  | .res3MemHl => .res 3#3 .memHl
  | .res3A => .res 3#3 (.reg .a)
  | .res4B => .res 4#3 (.reg .b)
  | .res4C => .res 4#3 (.reg .c)
  | .res4D => .res 4#3 (.reg .d)
  | .res4E => .res 4#3 (.reg .e)
  | .res4H => .res 4#3 (.reg .h)
  | .res4L => .res 4#3 (.reg .l)
  | .res4MemHl => .res 4#3 .memHl
  | .res4A => .res 4#3 (.reg .a)
  | .res5B => .res 5#3 (.reg .b)
  | .res5C => .res 5#3 (.reg .c)
  | .res5D => .res 5#3 (.reg .d)
  | .res5E => .res 5#3 (.reg .e)
  | .res5H => .res 5#3 (.reg .h)
  | .res5L => .res 5#3 (.reg .l)
  | .res5MemHl => .res 5#3 .memHl
  | .res5A => .res 5#3 (.reg .a)
  | .res6B => .res 6#3 (.reg .b)
  | .res6C => .res 6#3 (.reg .c)
  | .res6D => .res 6#3 (.reg .d)
  | .res6E => .res 6#3 (.reg .e)
  | .res6H => .res 6#3 (.reg .h)
  | .res6L => .res 6#3 (.reg .l)
  | .res6MemHl => .res 6#3 .memHl
  | .res6A => .res 6#3 (.reg .a)
  | .res7B => .res 7#3 (.reg .b)
  | .res7C => .res 7#3 (.reg .c)
  | .res7D => .res 7#3 (.reg .d)
  | .res7E => .res 7#3 (.reg .e)
  | .res7H => .res 7#3 (.reg .h)
  | .res7L => .res 7#3 (.reg .l)
  | .res7MemHl => .res 7#3 .memHl
  | .res7A => .res 7#3 (.reg .a)
  | .set0B => .set 0#3 (.reg .b)
  | .set0C => .set 0#3 (.reg .c)
  | .set0D => .set 0#3 (.reg .d)
  | .set0E => .set 0#3 (.reg .e)
  | .set0H => .set 0#3 (.reg .h)
  | .set0L => .set 0#3 (.reg .l)
  | .set0MemHl => .set 0#3 .memHl
  | .set0A => .set 0#3 (.reg .a)
  | .set1B => .set 1#3 (.reg .b)
  | .set1C => .set 1#3 (.reg .c)
  | .set1D => .set 1#3 (.reg .d)
  | .set1E => .set 1#3 (.reg .e)
  | .set1H => .set 1#3 (.reg .h)
  | .set1L => .set 1#3 (.reg .l)
  | .set1MemHl => .set 1#3 .memHl
  | .set1A => .set 1#3 (.reg .a)
  | .set2B => .set 2#3 (.reg .b)
  | .set2C => .set 2#3 (.reg .c)
  | .set2D => .set 2#3 (.reg .d)
  | .set2E => .set 2#3 (.reg .e)
  | .set2H => .set 2#3 (.reg .h)
  | .set2L => .set 2#3 (.reg .l)
  | .set2MemHl => .set 2#3 .memHl
  | .set2A => .set 2#3 (.reg .a)
  | .set3B => .set 3#3 (.reg .b)
  | .set3C => .set 3#3 (.reg .c)
  | .set3D => .set 3#3 (.reg .d)
  | .set3E => .set 3#3 (.reg .e)
  | .set3H => .set 3#3 (.reg .h)
  | .set3L => .set 3#3 (.reg .l)
  | .set3MemHl => .set 3#3 .memHl
  | .set3A => .set 3#3 (.reg .a)
  | .set4B => .set 4#3 (.reg .b)
  | .set4C => .set 4#3 (.reg .c)
  | .set4D => .set 4#3 (.reg .d)
  | .set4E => .set 4#3 (.reg .e)
  | .set4H => .set 4#3 (.reg .h)
  | .set4L => .set 4#3 (.reg .l)
  | .set4MemHl => .set 4#3 .memHl
  | .set4A => .set 4#3 (.reg .a)
  | .set5B => .set 5#3 (.reg .b)
  | .set5C => .set 5#3 (.reg .c)
  | .set5D => .set 5#3 (.reg .d)
  | .set5E => .set 5#3 (.reg .e)
  | .set5H => .set 5#3 (.reg .h)
  | .set5L => .set 5#3 (.reg .l)
  | .set5MemHl => .set 5#3 .memHl
  | .set5A => .set 5#3 (.reg .a)
  | .set6B => .set 6#3 (.reg .b)
  | .set6C => .set 6#3 (.reg .c)
  | .set6D => .set 6#3 (.reg .d)
  | .set6E => .set 6#3 (.reg .e)
  | .set6H => .set 6#3 (.reg .h)
  | .set6L => .set 6#3 (.reg .l)
  | .set6MemHl => .set 6#3 .memHl
  | .set6A => .set 6#3 (.reg .a)
  | .set7B => .set 7#3 (.reg .b)
  | .set7C => .set 7#3 (.reg .c)
  | .set7D => .set 7#3 (.reg .d)
  | .set7E => .set 7#3 (.reg .e)
  | .set7H => .set 7#3 (.reg .h)
  | .set7L => .set 7#3 (.reg .l)
  | .set7MemHl => .set 7#3 .memHl
  | .set7A => .set 7#3 (.reg .a)

end Sys2Proof
end

