-- ==== Sys2Proof/Config.lean ====
section
/-! DEFINITION. The configuration of the machine (00_scope R10): what is fixed when it is constructed. It is held
as plain data (`Cartridge`), one value for the whole life of a machine, and carried in the state by its one
constant field `cart` (log entry 1), so that every statement quantifies over every configuration. The numeric
constants of 00_scope R13 stand beside the operations that use them (Machine/Ops.lean). -/

namespace Sys2Proof

/-- Byte storage: (index, byte) pairs with strictly rising indices and no entry equal to `0x00`, the byte an
unlisted index reads as (10_state R68 for `IO`; DESIGN CHOICE for the RAMs and the ROM image, log entry 2).
`Memory.wf` states the form. -/
abbrev Memory := List Host.Cell

/-- The "mapper variant tag" (00_scope R10; 20_memory R125, R127). -/
inductive Mapper where
  /-- direct, single bank, no switching (R125) -/
  | noMapper
  /-- the bank-switching variant with three latches (R127) -/
  | banked
  deriving DecidableEq, Repr

/-- The parameters of 00_scope R10; constant for the machine's whole life. -/
structure Cartridge where
  /-- `MAPPER` -/
  mapper : Mapper
  /-- `ROM_BANKS`: 0x4000-byte ROM banks physically present -/
  romBanks : Nat
  /-- `RAM_BANKS`: 0x2000-byte external RAM banks physically present -/
  ramBanks : Nat
  /-- `BATTERY`: has no effect on any rule; tells the host whether to persist the external RAM -/
  battery : Bool
  /-- `ROM`: the image, `ROM_BANKS * 0x4000` bytes; immutable after load -/
  rom : Memory
  deriving DecidableEq, Repr

/-- The cartridge of `State.reset`: the base machine of 95_test_vectors (`NoMapper`, two ROM banks, no external RAM,
an all-zero image). DESIGN CHOICE, log entry 1: the spec leaves the parameters open. -/
def Cartridge.base : Cartridge :=
  { mapper := .noMapper, romBanks := 2, ramBanks := 0, battery := false, rom := [] }

end Sys2Proof
end

