-- ==== Sys2Proof/Machine/Memory.lean ====
section
/-! DEFINITION. One byte storage: read, write and the canonical form of `Memory`. -/

namespace Sys2Proof

/-- What an unlisted index reads as (10_state R68 for `IO`; DESIGN CHOICE for the RAMs and the ROM image, log entry 2). -/
def Memory.unlisted : Byte := 0x00#8

/-- The byte at index `i`. -/
def Memory.read (m : Memory) (i : Nat) : Byte :=
  match m with
  | [] => Memory.unlisted
  | (j, v) :: rest => if j = i then v else Memory.read rest i

/-- Store `v` at index `i`, keeping the canonical form: the entry is removed when `v` is what an unlisted index reads as. -/
def Memory.write (m : Memory) (i : Nat) (v : Byte) : Memory :=
  match m with
  | [] => if v = Memory.unlisted then [] else [(i, v)]
  | (j, w) :: rest =>
    if i < j then (if v = Memory.unlisted then (j, w) :: rest else (i, v) :: (j, w) :: rest)
    else if i = j then (if v = Memory.unlisted then rest else (i, v) :: rest)
    else (j, w) :: Memory.write rest i v

/-- The canonical form from index `lo` on, below `size`. -/
def Memory.wfFrom (lo size : Nat) (m : Memory) : Bool :=
  match m with
  | [] => true
  | (j, v) :: rest =>
    decide (lo ≤ j) && decide (j < size) && decide (v ≠ Memory.unlisted) && Memory.wfFrom (j + 1) size rest

/-- The canonical form of a storage of `size` cells: indices strictly rising and below `size`, no entry equal to what an
unlisted index reads as. -/
def Memory.wf (size : Nat) (m : Memory) : Bool := Memory.wfFrom 0 size m

/-- The storage that holds the bytes `bs` from index `i` on, over an empty one. -/
def Memory.ofBytes (i : Nat) (bs : List Byte) : Memory :=
  match bs with
  | [] => []
  | v :: rest => if v = Memory.unlisted then Memory.ofBytes (i + 1) rest else (i, v) :: Memory.ofBytes (i + 1) rest

end Sys2Proof
end

