-- ==== Sys2Proof/Machine/State.lean ====
section
/-! DEFINITION. The state record of 10_state R69, field by field, the reasons a step can stop, and the reset
values of 10_state section 9. Plain data: no field holds a function. -/

namespace Sys2Proof.Machine

open Sys2Proof

/-- `mode` (10_state R45): a run state, not a privilege level (60_exceptions R460). -/
inductive Mode where
  /-- the next step fetches an instruction or services an interrupt -/
  | running
  /-- entered by `HALT`, left when an enabled request is pending -/
  | halted
  /-- entered by `STOP`, left by a joypad request -/
  | stopped
  /-- entered by the undefined-opcode fault; only reset leaves it -/
  | faulted
  deriving DecidableEq, Repr

/-- The payload of the `UnimplementedOpcode` failure (10_state R46). -/
structure FaultRecord where
  /-- the undefined opcode byte -/
  opcode : Byte
  /-- the address it was fetched from -/
  pc : Word
  deriving DecidableEq, Repr

/-- The reasons a step ends in a fault. -/
inductive Fault where
  /-- Raised by `step` in every state whose mode is FAULTED (60_exceptions R406: every later `step()` returns the same
  failure and changes nothing), with the record the undefined opcode left. Safe: the spec itself stops there. The
  step that meets the undefined opcode answers a next state that holds the mode and the record (log entry 4). -/
  | unimplementedOpcode (record : Option FaultRecord)
  deriving DecidableEq, Repr

/-- The reasons an operation is refused. -/
inductive Refusal where
  /-- Raised by `exec` for an instruction that has no meaning yet; no arm does. Safe. -/
  | notModelled (mnemonic : String)
  /-- Raised by the host operation `restore` when the byte count is not `RAM_BANKS * 0x2000`, a precondition of
  70_reset R483. No step raises it. Safe. -/
  | restoreLength
  /-- Raised by the environment's write of an `IO` index that has no pass-through cell (70_reset R480 forbids it). No
  step raises it. Safe. -/
  | notPassThrough
  /-- Raised by the host operation `construct` when the image or the bank counts break the precondition of
  construction (`CartridgeLoadMismatch`, 00_scope R12, 70_reset R484). No step raises it. Safe. -/
  | cartridgeLoadMismatch
  deriving DecidableEq, Repr

/-- The state of the machine (10_state R69), with the constant configuration `cart` (log entry 1) and the model's own
field `cycles` (log entry 5). -/
structure State where
  /-- `A`, the accumulator (R30) -/
  a : Byte
  /-- `F`, the flag register: Z N H C in bits 7 to 4, bits 3 to 0 zero (R36, R37) -/
  f : Byte
  /-- `B` (R30) -/
  b : Byte
  /-- `C` (R30) -/
  c : Byte
  /-- `D` (R30) -/
  d : Byte
  /-- `E` (R30) -/
  e : Byte
  /-- `H` (R30) -/
  h : Byte
  /-- `L` (R30) -/
  l : Byte
  /-- `SP` (R34) -/
  sp : Word
  /-- `PC` (R35) -/
  pc : Word
  /-- `IME`, the master enable (R40) -/
  ime : Bool
  /-- `ime_pending`, set by `EI` (R41) -/
  imePending : Bool
  /-- `halt_bug`, the armed halt quirk (R42) -/
  haltBug : Bool
  /-- `mode` (R45) -/
  mode : Mode
  /-- `fault`, meaningful only when the mode is FAULTED (R46) -/
  fault : Option FaultRecord
  /-- `IE`, the enable mask (R43) -/
  ie : Byte
  /-- `IF[4:0]`, the request flags (R44) -/
  irq : BitVec 5
  /-- `div`, the free-running divider (R47) -/
  div : Word
  /-- `TIMA`, the gated counter (R48) -/
  tima : Byte
  /-- `TMA`, the reload value (R49) -/
  tma : Byte
  /-- `TAC[2:0]`, the timer control (R50) -/
  tac : BitVec 3
  /-- `tsub`, the gated counter's prescaler (R51) -/
  tsub : Nat
  /-- `rom_bank` (R52) -/
  romBank : Nat
  /-- `ram_bank` (R53) -/
  ramBank : Nat
  /-- `ram_enable` (R54) -/
  ramEnable : Bool
  /-- `clock`, elapsed cycles (R55) -/
  clock : Nat
  /-- `WRAM` (R56) -/
  wram : Memory
  /-- `HRAM` (R57) -/
  hram : Memory
  /-- `IO`, the 123 pass-through cells (R58) -/
  io : Memory
  /-- `VRAM` (R59) -/
  vram : Memory
  /-- `OAM` (R60) -/
  oam : Memory
  /-- `XRAM`, the external RAM of all banks (R61) -/
  xram : Memory
  /-- the configuration (00_scope R10; 10_state R62): no step changes it (log entry 1) -/
  cart : Cartridge
  /-- the model's own field: the count the last completed step returned (00_scope R16 `cycles <- n`; log entry 5) -/
  cycles : Nat
  deriving DecidableEq, Repr

/-- The machine right after reset with a given cartridge and given initial memory contents (10_state R64 to R68,
70_reset R470 to R475): the memories whose contents the spec leaves unspecified are launch parameters. -/
def State.launch (cart : Cartridge) (wram hram vram oam xram : Memory) : State :=
  { a := 0x01#8, f := 0xB0#8, b := 0x00#8, c := 0x13#8, d := 0x00#8, e := 0xD8#8, h := 0x01#8, l := 0x4D#8
    sp := 0xFFFE#16, pc := 0x0100#16
    ime := false, imePending := false, haltBug := false, mode := .running, fault := none
    ie := 0x00#8, irq := 0#5
    div := 0x0000#16, tima := 0x00#8, tma := 0x00#8, tac := 0#3, tsub := 0
    romBank := 1 % cart.romBanks, ramBank := 0
    ramEnable := decide (cart.mapper = .noMapper) && decide (0 < cart.ramBanks)
    clock := 0
    wram := wram, hram := hram, io := [], vram := vram, oam := oam, xram := xram
    cart := cart
    cycles := 0 }

/-- The machine right after reset: the base cartridge (log entry 1) and every RAM byte `0x00` (DESIGN CHOICE, log
entry 2). -/
def State.reset : State := State.launch Cartridge.base [] [] [] [] []

end Sys2Proof.Machine
end

