-- ==== Sys2Proof/Machine/Ops.lean ====
section
/-! DEFINITION. The named operations of the machine: numeric constants (00_scope R13), the address router and the
cartridge translator (20_memory), the stack (00_scope R18, R19), the interrupt controller, interrupt service and the
return from it, the undefined-opcode fault (60_exceptions), the timer and the end of a step. -/

namespace Sys2Proof.Machine

open Sys2Proof

/-! ## Constants -/

/-- The sentinel byte (20_memory R84). -/
def sentinel : Byte := 0xFF#8

/-- The cost of an idle step (60_exceptions R430). -/
def idleCycles : Nat := 4

/-- The cost of interrupt service (60_exceptions R420). -/
def serviceCycles : Nat := 20

/-- The gated counter's period in cycles, by `TAC[1:0]` (60_exceptions R442). -/
def timerPeriod (tac : BitVec 3) : Nat :=
  match tac.toNat % 4 with
  | 0 => 1024
  | 1 => 16
  | 2 => 64
  | _ => 256

/-- Bytes in one window of the switchable ROM bank (00_scope R11). -/
def romWindow : Nat := 0x4000

/-- Bytes in one window of the external RAM (00_scope R11). -/
def ramWindow : Nat := 0x2000

/-! ## The result of a step part -/

/-- What a meaning answers. -/
abbrev Result := Host.Outcome State Fault Refusal

/-- `cycles <- n` (00_scope R16): the cost of the step. -/
def withCost (n : Nat) (s : State) : State := { s with cycles := n }

/-! ## Registers -/

/-- The pair `AF` (10_state R32). -/
def getAf (s : State) : Word := pairOf s.a s.f

/-- The pair `BC` (10_state R32). -/
def getBc (s : State) : Word := pairOf s.b s.c

/-- The pair `DE` (10_state R32). -/
def getDe (s : State) : Word := pairOf s.d s.e

/-- The pair `HL` (10_state R32). -/
def getHl (s : State) : Word := pairOf s.h s.l

/-- `BC <- v`. -/
def setBc (v : Word) (s : State) : State := { s with b := hiByte v, c := loByte v }

/-- `DE <- v`. -/
def setDe (v : Word) (s : State) : State := { s with d := hiByte v, e := loByte v }

/-- `HL <- v`. -/
def setHl (v : Word) (s : State) : State := { s with h := hiByte v, l := loByte v }

/-! ## The address router (20_memory sections 2 and 3) -/

/-- The owners of the address space (20_memory R85). -/
inductive Region where
  /-- 0x0000 to 0x3FFF, ROM bank 0 -/
  | romFixed
  /-- 0x4000 to 0x7FFF, switchable ROM bank -/
  | romBanked
  /-- 0x8000 to 0x9FFF, video RAM -/
  | vram
  /-- 0xA000 to 0xBFFF, switchable external RAM -/
  | xram
  /-- 0xC000 to 0xDFFF, internal work RAM -/
  | wram
  /-- 0xE000 to 0xFDFF, echo of work RAM -/
  | echo
  /-- 0xFE00 to 0xFE9F, object-attribute memory -/
  | oam
  /-- 0xFEA0 to 0xFEFF, unused -/
  | unused
  /-- 0xFF04, the divider -/
  | div
  /-- 0xFF05, the gated counter -/
  | tima
  /-- 0xFF06, the reload value -/
  | tma
  /-- 0xFF07, the timer control -/
  | tac
  /-- 0xFF0F, the request flags -/
  | irq
  /-- every other address of 0xFF00 to 0xFF7F, pass-through I/O -/
  | io
  /-- 0xFF80 to 0xFFFE, high RAM -/
  | hram
  /-- 0xFFFF, the interrupt-enable register -/
  | ie
  deriving DecidableEq, Repr

/-- The region that owns an address (20_memory R85; sub-routing of the I/O window by R105). -/
def regionOf (addr : Word) : Region :=
  if addr.toNat < 0x4000 then .romFixed
  else if addr.toNat < 0x8000 then .romBanked
  else if addr.toNat < 0xA000 then .vram
  else if addr.toNat < 0xC000 then .xram
  else if addr.toNat < 0xE000 then .wram
  else if addr.toNat < 0xFE00 then .echo
  else if addr.toNat < 0xFEA0 then .oam
  else if addr.toNat < 0xFF00 then .unused
  else if addr.toNat = 0xFF04 then .div
  else if addr.toNat = 0xFF05 then .tima
  else if addr.toNat = 0xFF06 then .tma
  else if addr.toNat = 0xFF07 then .tac
  else if addr.toNat = 0xFF0F then .irq
  else if addr.toNat < 0xFF80 then .io
  else if addr.toNat < 0xFFFF then .hram
  else .ie

/-- The `ROM` offset of an address of the switchable window (20_memory R123). -/
def romOffset (s : State) (addr : Word) : Nat := s.romBank * romWindow + (addr.toNat - 0x4000)

/-- The `XRAM` offset of an address of the external-RAM window (20_memory R124). -/
def xramOffset (s : State) (addr : Word) : Nat := s.ramBank * ramWindow + (addr.toNat - 0xA000)

/-- The external RAM is present and enabled (20_memory R96, R97). -/
def xramOn (s : State) : Bool := s.ramEnable && decide (0 < s.cart.ramBanks)

/-- `MemRead(addr, 1)` (20_memory R82): total, no side effect (R146). -/
def memRead (s : State) (addr : Word) : Byte :=
  match regionOf addr with
  | .romFixed => s.cart.rom.read addr.toNat
  | .romBanked => s.cart.rom.read (romOffset s addr)
  | .vram => s.vram.read (addr.toNat - 0x8000)
  | .xram => if xramOn s then s.xram.read (xramOffset s addr) else sentinel
  | .wram => s.wram.read (addr.toNat - 0xC000)
  | .echo => s.wram.read (addr.toNat - 0xE000)
  | .oam => s.oam.read (addr.toNat - 0xFE00)
  | .unused => sentinel
  | .div => hiByte s.div
  | .tima => s.tima
  | .tma => s.tma
  | .tac => 0xF8#8 ||| s.tac.zeroExtend 8
  | .irq => 0xE0#8 ||| s.irq.zeroExtend 8
  | .io => s.io.read (addr.toNat - 0xFF00)
  | .hram => s.hram.read (addr.toNat - 0xFF80)
  | .ie => s.ie

/-- The ROM bank a value written to 0x2000 to 0x3FFF selects (20_memory R129, R137): five bits, reduced modulo the bank
count, and 0 replaced by `1 mod ROM_BANKS`. -/
def selectRomBank (romBanks : Nat) (v : Byte) : Nat :=
  if v.toNat % 32 % romBanks = 0 then 1 % romBanks else v.toNat % 32 % romBanks

/-- The RAM bank a value written to 0x4000 to 0x5FFF selects (20_memory R130). -/
def selectRamBank (ramBanks : Nat) (v : Byte) : Nat := if 0 < ramBanks then v.toNat % 4 % ramBanks else 0

/-- A write to 0x0000 to 0x7FFF: the cartridge translator's latches (20_memory R91, R125, R128 to R131). -/
def cartWrite (addr : Word) (v : Byte) (s : State) : State :=
  match s.cart.mapper with
  | .noMapper => s
  | .banked =>
    if addr.toNat < 0x2000 then { s with ramEnable := decide (v.toNat % 16 = 0xA) }
    else if addr.toNat < 0x4000 then { s with romBank := selectRomBank s.cart.romBanks v }
    else if addr.toNat < 0x6000 then { s with ramBank := selectRamBank s.cart.ramBanks v }
    else s

/-- `MemWrite(addr, 1, v)` (20_memory R83): total. -/
def memWrite (addr : Word) (v : Byte) (s : State) : State :=
  match regionOf addr with
  | .romFixed => cartWrite addr v s
  | .romBanked => cartWrite addr v s
  | .vram => { s with vram := s.vram.write (addr.toNat - 0x8000) v }
  | .xram => if xramOn s then { s with xram := s.xram.write (xramOffset s addr) v } else s
  | .wram => { s with wram := s.wram.write (addr.toNat - 0xC000) v }
  | .echo => { s with wram := s.wram.write (addr.toNat - 0xE000) v }
  | .oam => { s with oam := s.oam.write (addr.toNat - 0xFE00) v }
  | .unused => s
  | .div => { s with div := 0#16, tima := 0#8, tsub := 0 }
  | .tima => { s with tima := v }
  | .tma => { s with tma := v }
  | .tac => { s with tac := v.extractLsb' 0 3 }
  | .irq => { s with irq := v.extractLsb' 0 5 }
  | .io => { s with io := s.io.write (addr.toNat - 0xFF00) v }
  | .hram => { s with hram := s.hram.write (addr.toNat - 0xFF80) v }
  | .ie => { s with ie := v }

/-- `MemWrite(addr, 2, v)`: low byte first, then the high byte at the next address (00_scope R16; 20_memory R140). -/
def memWrite16 (addr : Word) (v : Word) (s : State) : State :=
  memWrite (addr + 1#16) (hiByte v) (memWrite addr (loByte v) s)

/-! ## The stack -/

/-- `Push16(v)` (00_scope R19): the high byte first, at `SP - 1`, then the low byte at `SP - 2`. -/
def push16 (v : Word) (s : State) : State :=
  let s1 := memWrite (s.sp - 1#16) (hiByte v) { s with sp := s.sp - 1#16 }
  memWrite (s1.sp - 1#16) (loByte v) { s1 with sp := s1.sp - 1#16 }

/-- The value `Pop16()` answers (00_scope R18): the low byte at `SP`, the high byte at `SP + 1`. -/
def popValue (s : State) : Word := pairOf (memRead s (s.sp + 1#16)) (memRead s s.sp)

/-- The state `Pop16()` leaves (00_scope R18): `SP` two higher. -/
def popState (s : State) : State := { s with sp := s.sp + 1#16 + 1#16 }

/-! ## The interrupt controller (60_exceptions section 3) -/

/-- The five sources (60_exceptions R410), highest priority first. -/
inductive Source where
  | vblank | stat | timer | serial | joypad
  deriving DecidableEq, Repr

/-- The bit of `IE` and `IF` a source owns (60_exceptions R410). -/
def Source.bitIndex (k : Source) : Nat :=
  match k with
  | .vblank => 0
  | .stat => 1
  | .timer => 2
  | .serial => 3
  | .joypad => 4

/-- The service address of a source, `0x0040 + 8 * k` (60_exceptions R410). -/
def Source.serviceAddress (k : Source) : Word := 0x0040#16 + BitVec.ofNat 16 (8 * k.bitIndex)

/-- The 5-bit mask of a source. -/
def Source.mask (k : Source) : BitVec 5 := 1#5 <<< k.bitIndex

/-- The pending set `IE & IF & 0x1F` (60_exceptions R412); it ignores `IME`. -/
def pendingSet (s : State) : BitVec 5 := s.ie.extractLsb' 0 5 &&& s.irq

/-- `highest_pending()` (60_exceptions R414): the pending source with the smallest number, of a pending set. -/
def highestPending (pend : BitVec 5) : Option Source :=
  if pend.getLsbD 0 then some .vblank
  else if pend.getLsbD 1 then some .stat
  else if pend.getLsbD 2 then some .timer
  else if pend.getLsbD 3 then some .serial
  else if pend.getLsbD 4 then some .joypad
  else none

/-- `request(k)`: `IF[k] <- 1` (60_exceptions R413). -/
def request (k : Source) (s : State) : State := { s with irq := s.irq ||| k.mask }

/-- `acknowledge(k)`: `IF[k] <- 0` (60_exceptions R415). -/
def acknowledge (k : Source) (s : State) : State := { s with irq := s.irq &&& ~~~k.mask }

/-- `set_master_enable(b)`: `IME <- b` (60_exceptions R416). -/
def setMasterEnable (on : Bool) (s : State) : State := { s with ime := on }

/-! ## Taking an interrupt, returning from it, and the fault -/

/-- Interrupt service of source `k` (60_exceptions R420): the enables and the quirk cleared, `PC` pushed, then the request
acknowledged, then the jump; cost 20. -/
def service (k : Source) (s : State) : State :=
  let s1 := push16 s.pc { s with ime := false, imePending := false, haltBug := false }
  withCost serviceCycles { acknowledge k s1 with pc := k.serviceAddress }

/-- `PC <- Pop16()` (45_control R348). -/
def returnPc (s : State) : State := { popState s with pc := popValue s }

/-- The return from an interrupt: `PC <- Pop16(); IME <- 1` (45_control R350; 60_exceptions R424). -/
def returnFromInterrupt (s : State) : State := setMasterEnable true (returnPc s)

/-- `raise UnimplementedOpcode(op, PC)` (46_system R376; 60_exceptions R405): the mode and the record, nothing else. -/
def raiseUndefined (op : Byte) (s : State) : State :=
  { s with mode := .faulted, fault := some { opcode := op, pc := s.pc } }

/-! ## The timer and the end of a step -/

/-- One increment of the gated counter and whether it raised a request (60_exceptions R446, R447). -/
def timaIncrement (s : State) : State × Nat :=
  if s.tima = 0xFF#8 then (request .timer { s with tima := s.tma }, 1) else ({ s with tima := s.tima + 1#8 }, 0)

/-- The loop of `tick` (60_exceptions R446): while `tsub >= period`, take one period off and increment. `fuel` bounds the
passes; `n` counts the requests raised so far (log entry 11). -/
def tickLoop (fuel period : Nat) (s : State) (n : Nat) : State × Nat :=
  match fuel with
  | 0 => (s, n)
  | fuel + 1 =>
    if period ≤ s.tsub then
      let r := timaIncrement { s with tsub := s.tsub - period }
      tickLoop fuel period r.1 (n + r.2)
    else (s, n)

/-- `tick(c)` (60_exceptions R446) with the number of timer requests it raises. Each pass takes at least one cycle off
`tsub`, so `tsub` passes are enough. -/
def tickCount (c : Nat) (s : State) : State × Nat :=
  let s1 := { s with div := s.div + BitVec.ofNat 16 c }
  if s.tac.getLsbD 2 then
    tickLoop (s.tsub + c) (timerPeriod s.tac) { s1 with tsub := s.tsub + c } 0
  else (s1, 0)

/-- `tick(c)` (60_exceptions R446). -/
def tick (c : Nat) (s : State) : State := (tickCount c s).1

/-- `finish(c)` of 60_exceptions R400, with `c` the cost the step recorded: the clock advances, then the timer ticks. -/
def finish (s : State) : State := tick s.cycles { s with clock := s.clock + s.cycles }

/-- The promotion of the delayed enable (60_exceptions R426), `promote` being `ime_pending` as sampled before the
instruction. -/
def promoteIme (promote : Bool) (s : State) : State :=
  if promote && s.imePending then { setMasterEnable true s with imePending := false } else s

/-! ## Fetching (60_exceptions R400 part 5, 30_encoding R186) -/

/-- The opcode byte at `PC`. -/
def fetchOpcode (s : State) : Byte := memRead s s.pc

/-- Where the byte after the opcode is fetched: `PC + 1`, or `PC` itself when the halt quirk is armed (60_exceptions
R432). -/
def operandBase (s : State) : Word := if s.haltBug then s.pc else s.pc + 1#16

/-- The two bytes after the opcode, in ascending order (20_memory R141). Reading a byte the instruction does not have
changes nothing (20_memory R146; log entry 10). -/
def fetchOperands (s : State) : Byte × Byte :=
  (memRead s (operandBase s), memRead s (operandBase s + 1#16))

/-- The state after an instruction of `len` bytes has been fetched: `PC` past it, the quirk consumed (60_exceptions
R400, R432). -/
def afterFetch (len : Nat) (s : State) : State :=
  { s with pc := operandBase s + BitVec.ofNat 16 (len - 1), haltBug := false }

end Sys2Proof.Machine
end

