-- ==== Sys2Proof/Machine/Flags.lean ====
section
/-! DEFINITION. The flag register and every result and flag computation of the instruction set: 42_alu8 R260 to R278,
43_alu16 R300 and R303, 44_rotate_shift_bit R310 to R323. Each returns the result and the new `F`. -/

namespace Sys2Proof.Machine

open Sys2Proof

/-- `fZ ++ fN ++ fH ++ fC ++ 0b0000` (42_alu8; 10_state R36, R37). -/
def packF (z n h c : Bool) : Byte :=
  BitVec.ofBool z ++ BitVec.ofBool n ++ BitVec.ofBool h ++ BitVec.ofBool c ++ 0#4

/-- `fZ = F[7]` of a flag byte (10_state R36). -/
def zOf (f : Byte) : Bool := f.getLsbD 7

/-- `fN = F[6]` of a flag byte (10_state R36). -/
def nOf (f : Byte) : Bool := f.getLsbD 6

/-- `fH = F[5]` of a flag byte (10_state R36). -/
def hOf (f : Byte) : Bool := f.getLsbD 5

/-- `fC = F[4]` of a flag byte (10_state R36). -/
def cOf (f : Byte) : Bool := f.getLsbD 4

/-- `A + v + c` with its flags (42_alu8 R261, R262). -/
def addBytes (a v : Byte) (c : Bool) : Byte × Byte :=
  let res := a + v + bitByte c
  (res, packF (decide (res = 0#8)) false
    (decide (0xF < lowNibble a + lowNibble v + c.toNat)) (decide (0xFF < a.toNat + v.toNat + c.toNat)))

/-- `A - v - c` with its flags, which are borrows (42_alu8 R263, R264). -/
def subBytes (a v : Byte) (c : Bool) : Byte × Byte :=
  let res := a - v - bitByte c
  (res, packF (decide (res = 0#8)) true
    (decide (lowNibble a < lowNibble v + c.toNat)) (decide (a.toNat < v.toNat + c.toNat)))

/-- The new `A` and `F` of an accumulator operation on `A = a`, the operand `v` and the flags `f` (42_alu8 R261 to R268). -/
def aluResult (op : AluOp) (a v f : Byte) : Byte × Byte :=
  match op with
  | .add => addBytes a v false
  | .adc => addBytes a v (cOf f)
  | .sub => subBytes a v false
  | .sbc => subBytes a v (cOf f)
  | .and => (a &&& v, packF (decide (a &&& v = 0#8)) false true false)
  | .xor => (a ^^^ v, packF (decide (a ^^^ v = 0#8)) false false false)
  | .or => (a ||| v, packF (decide (a ||| v = 0#8)) false false false)
  | .cp => (a, (subBytes a v false).2)

/-- The result and flags of `INC` (42_alu8 R269): `fC` kept. -/
def incByte (old f : Byte) : Byte × Byte :=
  (old + 1#8, packF (decide (old + 1#8 = 0#8)) false (decide (lowNibble old = 0xF)) (cOf f))

/-- The result and flags of `DEC` (42_alu8 R271): `fC` kept. -/
def decByte (old f : Byte) : Byte × Byte :=
  (old - 1#8, packF (decide (old - 1#8 = 0#8)) true (decide (lowNibble old = 0x0)) (cOf f))

/-- The result and flags of `DAA` (42_alu8 R273). -/
def daaByte (a f : Byte) : Byte × Byte :=
  if nOf f then
    let adj := (if hOf f then 0x06#8 else 0x00#8) ||| (if cOf f then 0x60#8 else 0x00#8)
    (a - adj, packF (decide (a - adj = 0#8)) true false (cOf f))
  else
    let adj := (if hOf f || decide (9 < lowNibble a) then 0x06#8 else 0x00#8) |||
      (if cOf f || decide (0x99 < a.toNat) then 0x60#8 else 0x00#8)
    (a + adj, packF (decide (a + adj = 0#8)) false false (cOf f || decide (0x99 < a.toNat)))

/-- The flags of `CPL` (42_alu8 R274). -/
def cplFlags (f : Byte) : Byte := packF (zOf f) true true (cOf f)

/-- The flags of `SCF` (42_alu8 R275). -/
def scfFlags (f : Byte) : Byte := packF (zOf f) false false true

/-- The flags of `CCF` (42_alu8 R276). -/
def ccfFlags (f : Byte) : Byte := packF (zOf f) false false (!cOf f)

/-- The result and flags of `ADD HL,rr` (43_alu16 R300): half-carry out of bit 11, carry out of bit 15, `fZ` kept. -/
def addWords (hl v : Word) (f : Byte) : Word × Byte :=
  (hl + v, packF (zOf f) false
    (decide (0xFFF < hl.toNat % 0x1000 + v.toNat % 0x1000)) (decide (0xFFFF < hl.toNat + v.toNat)))

/-- `SP + e` with the flags of the unsigned low-byte addition (41_load16_stack R243, 43_alu16 R303). -/
def spPlus (sp : Word) (u : Byte) : Word × Byte :=
  (sp + sext16 u, packF false false
    (decide (0xF < sp.toNat % 16 + lowNibble u)) (decide (0xFF < sp.toNat % 256 + u.toNat)))

/-- The result and the bit shifted out of a rotate or shift of `v` with incoming carry `cin` (44_rotate_shift_bit R310 to
R322; `SWAP` shifts nothing out). -/
def rotResult (op : RotOp) (v : Byte) (cin : Bool) : Byte × Bool :=
  match op with
  | .rlc => (v.extractLsb' 0 7 ++ v.extractLsb' 7 1, v.getLsbD 7)
  | .rrc => (v.extractLsb' 0 1 ++ v.extractLsb' 1 7, v.getLsbD 0)
  | .rl => (v.extractLsb' 0 7 ++ BitVec.ofBool cin, v.getLsbD 7)
  | .rr => (BitVec.ofBool cin ++ v.extractLsb' 1 7, v.getLsbD 0)
  | .sla => (v.extractLsb' 0 7 ++ 0#1, v.getLsbD 7)
  | .sra => (v.extractLsb' 7 1 ++ v.extractLsb' 1 7, v.getLsbD 0)
  | .swap => (v.extractLsb' 0 4 ++ v.extractLsb' 4 4, false)
  | .srl => (0#1 ++ v.extractLsb' 1 7, v.getLsbD 0)

/-- The flags of a CB-page rotate or shift (44_rotate_shift_bit, section 3). -/
def rotFlags (res : Byte) (c : Bool) : Byte := packF (decide (res = 0#8)) false false c

/-- The flags of an accumulator rotate: `fZ` always cleared (44_rotate_shift_bit, section 1). -/
def accRotFlags (c : Bool) : Byte := packF false false false c

/-- The flags of `BIT b` on `v` (44_rotate_shift_bit R323): `fC` kept. -/
def bitFlags (k : BitVec 3) (v f : Byte) : Byte := packF (!v.getLsbD k.toNat) false true (cOf f)

/-- `v & ~(1 << b)` (44_rotate_shift_bit R324). -/
def resetBit (k : BitVec 3) (v : Byte) : Byte := v &&& ~~~(1#8 <<< k.toNat)

/-- `v | (1 << b)` (44_rotate_shift_bit R325). -/
def setBit (k : BitVec 3) (v : Byte) : Byte := v ||| (1#8 <<< k.toNat)

end Sys2Proof.Machine
end

