-- ==== Sys2Proof/Machine/Operands.lean ====
section
/-! DEFINITION. The operand forms (30_encoding section 2): reading and writing registers, pairs and the byte at `HL`,
and the conditions. -/

namespace Sys2Proof.Machine

open Sys2Proof

/-- The register a code names (30_encoding R166). -/
def getReg (r : Reg8) (s : State) : Byte :=
  match r with
  | .b => s.b
  | .c => s.c
  | .d => s.d
  | .e => s.e
  | .h => s.h
  | .l => s.l
  | .a => s.a

/-- `r8[r] <- v` for a register (30_encoding R166). -/
def setReg (r : Reg8) (v : Byte) (s : State) : State :=
  match r with
  | .b => { s with b := v }
  | .c => { s with c := v }
  | .d => { s with d := v }
  | .e => { s with e := v }
  | .h => { s with h := v }
  | .l => { s with l := v }
  | .a => { s with a := v }

/-- `r8[i]` (30_encoding R166): code 6 is the memory byte at `HL`. -/
def getOpnd (o : Opnd) (s : State) : Byte :=
  match o with
  | .reg r => getReg r s
  | .memHl => memRead s (getHl s)

/-- `r8[i] <- v` (30_encoding R166). -/
def setOpnd (o : Opnd) (v : Byte) (s : State) : State :=
  match o with
  | .reg r => setReg r v s
  | .memHl => memWrite (getHl s) v s

/-- The second operand of an accumulator operation (42_alu8 R260). -/
def getSrc (src : Src) (s : State) : Byte :=
  match src with
  | .reg r => getReg r s
  | .memHl => memRead s (getHl s)
  | .imm n => n

/-- `r16[p]` (30_encoding R167). -/
def getPair (p : Pair) (s : State) : Word :=
  match p with
  | .bc => getBc s
  | .de => getDe s
  | .hl => getHl s
  | .sp => s.sp

/-- `r16[p] <- v` (30_encoding R167). -/
def setPair (p : Pair) (v : Word) (s : State) : State :=
  match p with
  | .bc => setBc v s
  | .de => setDe v s
  | .hl => setHl v s
  | .sp => { s with sp := v }

/-- `r16s[p]` (30_encoding R168). -/
def getStackPair (p : StackPair) (s : State) : Word :=
  match p with
  | .bc => getBc s
  | .de => getDe s
  | .hl => getHl s
  | .af => getAf s

/-- The write of `POP` (41_load16_stack R245): `F` takes the low byte with bits 3 to 0 cleared. -/
def setStackPair (p : StackPair) (v : Word) (s : State) : State :=
  match p with
  | .bc => setBc v s
  | .de => setDe v s
  | .hl => setHl v s
  | .af => { s with a := hiByte v, f := loByte v &&& 0xF0#8 }

/-- `cond(cc)` (45_control R340). -/
def condHolds (k : Cond) (s : State) : Bool :=
  match k with
  | .nz => !zOf s.f
  | .z => zOf s.f
  | .nc => !cOf s.f
  | .c => cOf s.f

end Sys2Proof.Machine
end

