-- ==== Sys2Proof/Machine/Alu16.lean ====
section
/-! DEFINITION. The 16-bit arithmetic instructions (43_alu16): the shared operation of each form, then one meaning per
instruction, each on the state after the fetch. -/

namespace Sys2Proof.Machine

open Sys2Proof

/-! ## Shared operations -/

/-- `ADD HL,rr`, cost 8 (43_alu16 R300). -/
def addHl (p : Pair) (s : State) : State :=
  let r := addWords (getHl s) (getPair p s) s.f
  withCost 8 { setHl r.1 s with f := r.2 }

/-- `INC rr`, cost 8, no flags (43_alu16 R301). -/
def incPair (p : Pair) (s : State) : State := withCost 8 (setPair p (getPair p s + 1#16) s)

/-- `DEC rr`, cost 8, no flags (43_alu16 R302). -/
def decPair (p : Pair) (s : State) : State := withCost 8 (setPair p (getPair p s - 1#16) s)

/-- `ADD SP,e` with the flags of the unsigned low-byte addition, cost 16 (43_alu16 R303). -/
def addSp (e : Byte) (s : State) : State :=
  let r := spPlus s.sp e
  withCost 16 { s with sp := r.1, f := r.2 }

/-! ## One meaning per instruction -/

/-- `INC BC` (43_alu16 R301). -/
def execIncBc (s : State) : Result := .next (incPair .bc s)

/-- `ADD HL,BC` (43_alu16 R300). -/
def execAddHlBc (s : State) : Result := .next (addHl .bc s)

/-- `DEC BC` (43_alu16 R302). -/
def execDecBc (s : State) : Result := .next (decPair .bc s)

/-- `INC DE` (43_alu16 R301). -/
def execIncDe (s : State) : Result := .next (incPair .de s)

/-- `ADD HL,DE` (43_alu16 R300). -/
def execAddHlDe (s : State) : Result := .next (addHl .de s)

/-- `DEC DE` (43_alu16 R302). -/
def execDecDe (s : State) : Result := .next (decPair .de s)

/-- `INC HL` (43_alu16 R301). -/
def execIncHl (s : State) : Result := .next (incPair .hl s)

/-- `ADD HL,HL` (43_alu16 R300). -/
def execAddHlHl (s : State) : Result := .next (addHl .hl s)

/-- `DEC HL` (43_alu16 R302). -/
def execDecHl (s : State) : Result := .next (decPair .hl s)

/-- `INC SP` (43_alu16 R301). -/
def execIncSp (s : State) : Result := .next (incPair .sp s)

/-- `ADD HL,SP` (43_alu16 R300). -/
def execAddHlSp (s : State) : Result := .next (addHl .sp s)

/-- `DEC SP` (43_alu16 R302). -/
def execDecSp (s : State) : Result := .next (decPair .sp s)

/-- `ADD SP,e` (43_alu16 R303). -/
def execAddSpE (e : Byte) (s : State) : Result := .next (addSp e s)

end Sys2Proof.Machine
end

