-- ==== Sys2Proof/Machine/Alu8.lean ====
section
/-! DEFINITION. The 8-bit arithmetic and logic instructions (42_alu8): the shared operation of each form, then one
meaning per instruction, each on the state after the fetch. -/

namespace Sys2Proof.Machine

open Sys2Proof

/-! ## Shared operations -/

/-- The cost of an accumulator operation by its operand's form (42_alu8 R260). -/
def aluCost (src : Src) : Nat :=
  match src with
  | .reg _ => 4
  | .memHl => 8
  | .imm _ => 8

/-- One of the eight accumulator operations on `A` and a second operand (42_alu8 R260 to R268). -/
def aluOp (op : AluOp) (src : Src) (s : State) : State :=
  let r := aluResult op s.a (getSrc src s) s.f
  withCost (aluCost src) { s with a := r.1, f := r.2 }

/-- The cost of `INC` and `DEC` by operand (42_alu8 R269 to R272). -/
def incCost (o : Opnd) : Nat :=
  match o with
  | .reg _ => 4
  | .memHl => 12

/-- `INC r`, `INC (HL)` (42_alu8 R269, R270): one read, then one write. -/
def incOpnd (o : Opnd) (s : State) : State :=
  let r := incByte (getOpnd o s) s.f
  withCost (incCost o) { setOpnd o r.1 s with f := r.2 }

/-- `DEC r`, `DEC (HL)` (42_alu8 R271, R272): one read, then one write. -/
def decOpnd (o : Opnd) (s : State) : State :=
  let r := decByte (getOpnd o s) s.f
  withCost (incCost o) { setOpnd o r.1 s with f := r.2 }

/-- `DAA`, cost 4 (42_alu8 R273). -/
def daaOp (s : State) : State :=
  let r := daaByte s.a s.f
  withCost 4 { s with a := r.1, f := r.2 }

/-- `CPL`, cost 4 (42_alu8 R274). -/
def cplOp (s : State) : State := withCost 4 { s with a := ~~~s.a, f := cplFlags s.f }

/-- `SCF`, cost 4 (42_alu8 R275). -/
def scfOp (s : State) : State := withCost 4 { s with f := scfFlags s.f }

/-- `CCF`, cost 4 (42_alu8 R276). -/
def ccfOp (s : State) : State := withCost 4 { s with f := ccfFlags s.f }

/-! ## One meaning per instruction -/

/-- `INC B` (42_alu8 R269). -/
def execIncB (s : State) : Result := .next (incOpnd (.reg .b) s)

/-- `DEC B` (42_alu8 R271). -/
def execDecB (s : State) : Result := .next (decOpnd (.reg .b) s)

/-- `INC C` (42_alu8 R269). -/
def execIncC (s : State) : Result := .next (incOpnd (.reg .c) s)

/-- `DEC C` (42_alu8 R271). -/
def execDecC (s : State) : Result := .next (decOpnd (.reg .c) s)

/-- `INC D` (42_alu8 R269). -/
def execIncD (s : State) : Result := .next (incOpnd (.reg .d) s)

/-- `DEC D` (42_alu8 R271). -/
def execDecD (s : State) : Result := .next (decOpnd (.reg .d) s)

/-- `INC E` (42_alu8 R269). -/
def execIncE (s : State) : Result := .next (incOpnd (.reg .e) s)

/-- `DEC E` (42_alu8 R271). -/
def execDecE (s : State) : Result := .next (decOpnd (.reg .e) s)

/-- `INC H` (42_alu8 R269). -/
def execIncH (s : State) : Result := .next (incOpnd (.reg .h) s)

/-- `DEC H` (42_alu8 R271). -/
def execDecH (s : State) : Result := .next (decOpnd (.reg .h) s)

/-- `DAA` (42_alu8 R273). -/
def execDaa (s : State) : Result := .next (daaOp s)

/-- `INC L` (42_alu8 R269). -/
def execIncL (s : State) : Result := .next (incOpnd (.reg .l) s)

/-- `DEC L` (42_alu8 R271). -/
def execDecL (s : State) : Result := .next (decOpnd (.reg .l) s)

/-- `CPL` (42_alu8 R274). -/
def execCpl (s : State) : Result := .next (cplOp s)

/-- `INC (HL)` (42_alu8 R270). -/
def execIncMemHl (s : State) : Result := .next (incOpnd .memHl s)

/-- `DEC (HL)` (42_alu8 R272). -/
def execDecMemHl (s : State) : Result := .next (decOpnd .memHl s)

/-- `SCF` (42_alu8 R275). -/
def execScf (s : State) : Result := .next (scfOp s)

/-- `INC A` (42_alu8 R269). -/
def execIncA (s : State) : Result := .next (incOpnd (.reg .a) s)

/-- `DEC A` (42_alu8 R271). -/
def execDecA (s : State) : Result := .next (decOpnd (.reg .a) s)

/-- `CCF` (42_alu8 R276). -/
def execCcf (s : State) : Result := .next (ccfOp s)

/-- `ADD A,B` (42_alu8 R261). -/
def execAddAB (s : State) : Result := .next (aluOp .add (.reg .b) s)

/-- `ADD A,C` (42_alu8 R261). -/
def execAddAC (s : State) : Result := .next (aluOp .add (.reg .c) s)

/-- `ADD A,D` (42_alu8 R261). -/
def execAddAD (s : State) : Result := .next (aluOp .add (.reg .d) s)

/-- `ADD A,E` (42_alu8 R261). -/
def execAddAE (s : State) : Result := .next (aluOp .add (.reg .e) s)

/-- `ADD A,H` (42_alu8 R261). -/
def execAddAH (s : State) : Result := .next (aluOp .add (.reg .h) s)

/-- `ADD A,L` (42_alu8 R261). -/
def execAddAL (s : State) : Result := .next (aluOp .add (.reg .l) s)

/-- `ADD A,(HL)` (42_alu8 R261). -/
def execAddAMemHl (s : State) : Result := .next (aluOp .add .memHl s)

/-- `ADD A,A` (42_alu8 R261). -/
def execAddAA (s : State) : Result := .next (aluOp .add (.reg .a) s)

/-- `ADC A,B` (42_alu8 R262). -/
def execAdcAB (s : State) : Result := .next (aluOp .adc (.reg .b) s)

/-- `ADC A,C` (42_alu8 R262). -/
def execAdcAC (s : State) : Result := .next (aluOp .adc (.reg .c) s)

/-- `ADC A,D` (42_alu8 R262). -/
def execAdcAD (s : State) : Result := .next (aluOp .adc (.reg .d) s)

/-- `ADC A,E` (42_alu8 R262). -/
def execAdcAE (s : State) : Result := .next (aluOp .adc (.reg .e) s)

/-- `ADC A,H` (42_alu8 R262). -/
def execAdcAH (s : State) : Result := .next (aluOp .adc (.reg .h) s)

/-- `ADC A,L` (42_alu8 R262). -/
def execAdcAL (s : State) : Result := .next (aluOp .adc (.reg .l) s)

/-- `ADC A,(HL)` (42_alu8 R262). -/
def execAdcAMemHl (s : State) : Result := .next (aluOp .adc .memHl s)

/-- `ADC A,A` (42_alu8 R262). -/
def execAdcAA (s : State) : Result := .next (aluOp .adc (.reg .a) s)

/-- `SUB B` (42_alu8 R263). -/
def execSubB (s : State) : Result := .next (aluOp .sub (.reg .b) s)

/-- `SUB C` (42_alu8 R263). -/
def execSubC (s : State) : Result := .next (aluOp .sub (.reg .c) s)

/-- `SUB D` (42_alu8 R263). -/
def execSubD (s : State) : Result := .next (aluOp .sub (.reg .d) s)

/-- `SUB E` (42_alu8 R263). -/
def execSubE (s : State) : Result := .next (aluOp .sub (.reg .e) s)

/-- `SUB H` (42_alu8 R263). -/
def execSubH (s : State) : Result := .next (aluOp .sub (.reg .h) s)

/-- `SUB L` (42_alu8 R263). -/
def execSubL (s : State) : Result := .next (aluOp .sub (.reg .l) s)

/-- `SUB (HL)` (42_alu8 R263). -/
def execSubMemHl (s : State) : Result := .next (aluOp .sub .memHl s)

/-- `SUB A` (42_alu8 R263). -/
def execSubA (s : State) : Result := .next (aluOp .sub (.reg .a) s)

/-- `SBC A,B` (42_alu8 R264). -/
def execSbcAB (s : State) : Result := .next (aluOp .sbc (.reg .b) s)

/-- `SBC A,C` (42_alu8 R264). -/
def execSbcAC (s : State) : Result := .next (aluOp .sbc (.reg .c) s)

/-- `SBC A,D` (42_alu8 R264). -/
def execSbcAD (s : State) : Result := .next (aluOp .sbc (.reg .d) s)

/-- `SBC A,E` (42_alu8 R264). -/
def execSbcAE (s : State) : Result := .next (aluOp .sbc (.reg .e) s)

/-- `SBC A,H` (42_alu8 R264). -/
def execSbcAH (s : State) : Result := .next (aluOp .sbc (.reg .h) s)

/-- `SBC A,L` (42_alu8 R264). -/
def execSbcAL (s : State) : Result := .next (aluOp .sbc (.reg .l) s)

/-- `SBC A,(HL)` (42_alu8 R264). -/
def execSbcAMemHl (s : State) : Result := .next (aluOp .sbc .memHl s)

/-- `SBC A,A` (42_alu8 R264). -/
def execSbcAA (s : State) : Result := .next (aluOp .sbc (.reg .a) s)

/-- `AND B` (42_alu8 R265). -/
def execAndB (s : State) : Result := .next (aluOp .and (.reg .b) s)

/-- `AND C` (42_alu8 R265). -/
def execAndC (s : State) : Result := .next (aluOp .and (.reg .c) s)

/-- `AND D` (42_alu8 R265). -/
def execAndD (s : State) : Result := .next (aluOp .and (.reg .d) s)

/-- `AND E` (42_alu8 R265). -/
def execAndE (s : State) : Result := .next (aluOp .and (.reg .e) s)

/-- `AND H` (42_alu8 R265). -/
def execAndH (s : State) : Result := .next (aluOp .and (.reg .h) s)

/-- `AND L` (42_alu8 R265). -/
def execAndL (s : State) : Result := .next (aluOp .and (.reg .l) s)

/-- `AND (HL)` (42_alu8 R265). -/
def execAndMemHl (s : State) : Result := .next (aluOp .and .memHl s)

/-- `AND A` (42_alu8 R265). -/
def execAndA (s : State) : Result := .next (aluOp .and (.reg .a) s)

/-- `XOR B` (42_alu8 R266). -/
def execXorB (s : State) : Result := .next (aluOp .xor (.reg .b) s)

/-- `XOR C` (42_alu8 R266). -/
def execXorC (s : State) : Result := .next (aluOp .xor (.reg .c) s)

/-- `XOR D` (42_alu8 R266). -/
def execXorD (s : State) : Result := .next (aluOp .xor (.reg .d) s)

/-- `XOR E` (42_alu8 R266). -/
def execXorE (s : State) : Result := .next (aluOp .xor (.reg .e) s)

/-- `XOR H` (42_alu8 R266). -/
def execXorH (s : State) : Result := .next (aluOp .xor (.reg .h) s)

/-- `XOR L` (42_alu8 R266). -/
def execXorL (s : State) : Result := .next (aluOp .xor (.reg .l) s)

/-- `XOR (HL)` (42_alu8 R266). -/
def execXorMemHl (s : State) : Result := .next (aluOp .xor .memHl s)

/-- `XOR A` (42_alu8 R266). -/
def execXorA (s : State) : Result := .next (aluOp .xor (.reg .a) s)

/-- `OR B` (42_alu8 R267). -/
def execOrB (s : State) : Result := .next (aluOp .or (.reg .b) s)

/-- `OR C` (42_alu8 R267). -/
def execOrC (s : State) : Result := .next (aluOp .or (.reg .c) s)

/-- `OR D` (42_alu8 R267). -/
def execOrD (s : State) : Result := .next (aluOp .or (.reg .d) s)

/-- `OR E` (42_alu8 R267). -/
def execOrE (s : State) : Result := .next (aluOp .or (.reg .e) s)

/-- `OR H` (42_alu8 R267). -/
def execOrH (s : State) : Result := .next (aluOp .or (.reg .h) s)

/-- `OR L` (42_alu8 R267). -/
def execOrL (s : State) : Result := .next (aluOp .or (.reg .l) s)

/-- `OR (HL)` (42_alu8 R267). -/
def execOrMemHl (s : State) : Result := .next (aluOp .or .memHl s)

/-- `OR A` (42_alu8 R267). -/
def execOrA (s : State) : Result := .next (aluOp .or (.reg .a) s)

/-- `CP B` (42_alu8 R268). -/
def execCpB (s : State) : Result := .next (aluOp .cp (.reg .b) s)

/-- `CP C` (42_alu8 R268). -/
def execCpC (s : State) : Result := .next (aluOp .cp (.reg .c) s)

/-- `CP D` (42_alu8 R268). -/
def execCpD (s : State) : Result := .next (aluOp .cp (.reg .d) s)

/-- `CP E` (42_alu8 R268). -/
def execCpE (s : State) : Result := .next (aluOp .cp (.reg .e) s)

/-- `CP H` (42_alu8 R268). -/
def execCpH (s : State) : Result := .next (aluOp .cp (.reg .h) s)

/-- `CP L` (42_alu8 R268). -/
def execCpL (s : State) : Result := .next (aluOp .cp (.reg .l) s)

/-- `CP (HL)` (42_alu8 R268). -/
def execCpMemHl (s : State) : Result := .next (aluOp .cp .memHl s)

/-- `CP A` (42_alu8 R268). -/
def execCpA (s : State) : Result := .next (aluOp .cp (.reg .a) s)

/-- `ADD A,n` (42_alu8 R261). -/
def execAddAN (n : Byte) (s : State) : Result := .next (aluOp .add (.imm n) s)

/-- `ADC A,n` (42_alu8 R262). -/
def execAdcAN (n : Byte) (s : State) : Result := .next (aluOp .adc (.imm n) s)

/-- `SUB n` (42_alu8 R263). -/
def execSubN (n : Byte) (s : State) : Result := .next (aluOp .sub (.imm n) s)

/-- `SBC A,n` (42_alu8 R264). -/
def execSbcAN (n : Byte) (s : State) : Result := .next (aluOp .sbc (.imm n) s)

/-- `AND n` (42_alu8 R265). -/
def execAndN (n : Byte) (s : State) : Result := .next (aluOp .and (.imm n) s)

/-- `XOR n` (42_alu8 R266). -/
def execXorN (n : Byte) (s : State) : Result := .next (aluOp .xor (.imm n) s)

/-- `OR n` (42_alu8 R267). -/
def execOrN (n : Byte) (s : State) : Result := .next (aluOp .or (.imm n) s)

/-- `CP n` (42_alu8 R268). -/
def execCpN (n : Byte) (s : State) : Result := .next (aluOp .cp (.imm n) s)

end Sys2Proof.Machine
end

