-- ==== Sys2Proof/Machine/Control.lean ====
section
/-! DEFINITION. Jumps, calls, returns and restarts (45_control): the shared operation of each form, then one meaning per
instruction. Each runs on the state after the fetch, so `PC` is the address of the instruction that follows. -/

namespace Sys2Proof.Machine

open Sys2Proof

/-! ## Shared operations -/

/-- `PC <- target` at the given cost. -/
def jumpTo (cost : Nat) (target : Word) (s : State) : State := withCost cost { s with pc := target }

/-- `JP cc,nn`: 16 cycles taken, 12 not taken (45_control R342). -/
def jpCond (k : Cond) (nn : Word) (s : State) : State :=
  if condHolds k s then jumpTo 16 nn s else withCost 12 s

/-- `PC <- PC + sext_16(e)`, cost 12 (45_control R344). -/
def jumpRel (e : Byte) (s : State) : State := jumpTo 12 (s.pc + sext16 e) s

/-- `JR cc,e`: 12 cycles taken, 8 not taken (45_control R345). -/
def jrCond (k : Cond) (e : Byte) (s : State) : State := if condHolds k s then jumpRel e s else withCost 8 s

/-- `Push16(PC); PC <- target` at the given cost (45_control R346, R351). -/
def callTo (cost : Nat) (target : Word) (s : State) : State := jumpTo cost target (push16 s.pc s)

/-- `CALL cc,nn`: 24 cycles taken, 12 not taken (45_control R347). -/
def callCond (k : Cond) (nn : Word) (s : State) : State :=
  if condHolds k s then callTo 24 nn s else withCost 12 s

/-- `RET cc`: 20 cycles taken, 8 not taken (45_control R349). -/
def retCond (k : Cond) (s : State) : State := if condHolds k s then withCost 20 (returnPc s) else withCost 8 s

/-- The restart target `8 * ttt` (30_encoding R172). -/
def rstTarget (k : BitVec 3) : Word := BitVec.ofNat 16 (8 * k.toNat)

/-! ## One meaning per instruction -/

/-- `JR e` (45_control R344). -/
def execJrE (e : Byte) (s : State) : Result := .next (jumpRel e s)

/-- `JR NZ,e` (45_control R345). -/
def execJrNzE (e : Byte) (s : State) : Result := .next (jrCond .nz e s)

/-- `JR Z,e` (45_control R345). -/
def execJrZE (e : Byte) (s : State) : Result := .next (jrCond .z e s)

/-- `JR NC,e` (45_control R345). -/
def execJrNcE (e : Byte) (s : State) : Result := .next (jrCond .nc e s)

/-- `JR C,e` (45_control R345). -/
def execJrCE (e : Byte) (s : State) : Result := .next (jrCond .c e s)

/-- `RET NZ` (45_control R349). -/
def execRetNz (s : State) : Result := .next (retCond .nz s)

/-- `JP NZ,nn` (45_control R342). -/
def execJpNzNn (nn : Word) (s : State) : Result := .next (jpCond .nz nn s)

/-- `JP nn` (45_control R341). -/
def execJpNn (nn : Word) (s : State) : Result := .next (jumpTo 16 nn s)

/-- `CALL NZ,nn` (45_control R347). -/
def execCallNzNn (nn : Word) (s : State) : Result := .next (callCond .nz nn s)

/-- `RST 0x00` (45_control R351). -/
def execRst00 (s : State) : Result := .next (callTo 16 (rstTarget 0#3) s)

/-- `RET Z` (45_control R349). -/
def execRetZ (s : State) : Result := .next (retCond .z s)

/-- `RET` (45_control R348). -/
def execRet (s : State) : Result := .next (withCost 16 (returnPc s))

/-- `JP Z,nn` (45_control R342). -/
def execJpZNn (nn : Word) (s : State) : Result := .next (jpCond .z nn s)

/-- `CALL Z,nn` (45_control R347). -/
def execCallZNn (nn : Word) (s : State) : Result := .next (callCond .z nn s)

/-- `CALL nn` (45_control R346). -/
def execCallNn (nn : Word) (s : State) : Result := .next (callTo 24 nn s)

/-- `RST 0x08` (45_control R351). -/
def execRst08 (s : State) : Result := .next (callTo 16 (rstTarget 1#3) s)

/-- `RET NC` (45_control R349). -/
def execRetNc (s : State) : Result := .next (retCond .nc s)

/-- `JP NC,nn` (45_control R342). -/
def execJpNcNn (nn : Word) (s : State) : Result := .next (jpCond .nc nn s)

/-- `CALL NC,nn` (45_control R347). -/
def execCallNcNn (nn : Word) (s : State) : Result := .next (callCond .nc nn s)

/-- `RST 0x10` (45_control R351). -/
def execRst10 (s : State) : Result := .next (callTo 16 (rstTarget 2#3) s)

/-- `RET C` (45_control R349). -/
def execRetC (s : State) : Result := .next (retCond .c s)

/-- `RETI` (45_control R350). -/
def execReti (s : State) : Result := .next (withCost 16 (returnFromInterrupt s))

/-- `JP C,nn` (45_control R342). -/
def execJpCNn (nn : Word) (s : State) : Result := .next (jpCond .c nn s)

/-- `CALL C,nn` (45_control R347). -/
def execCallCNn (nn : Word) (s : State) : Result := .next (callCond .c nn s)

/-- `RST 0x18` (45_control R351). -/
def execRst18 (s : State) : Result := .next (callTo 16 (rstTarget 3#3) s)

/-- `RST 0x20` (45_control R351). -/
def execRst20 (s : State) : Result := .next (callTo 16 (rstTarget 4#3) s)

/-- `JP HL` (45_control R343). -/
def execJpHl (s : State) : Result := .next (jumpTo 4 (getHl s) s)

/-- `RST 0x28` (45_control R351). -/
def execRst28 (s : State) : Result := .next (callTo 16 (rstTarget 5#3) s)

/-- `RST 0x30` (45_control R351). -/
def execRst30 (s : State) : Result := .next (callTo 16 (rstTarget 6#3) s)

/-- `RST 0x38` (45_control R351). -/
def execRst38 (s : State) : Result := .next (callTo 16 (rstTarget 7#3) s)

end Sys2Proof.Machine
end

