-- ==== Sys2Proof/Machine/Load16.lean ====
section
/-! DEFINITION. The 16-bit loads and the stack instructions (41_load16_stack): the shared operation of each form, then
one meaning per instruction, each on the state after the fetch. -/

namespace Sys2Proof.Machine

open Sys2Proof

/-! ## Shared operations -/

/-- `r16[pp] <- nn`, cost 12 (41_load16_stack R240). -/
def ldPairImm (p : Pair) (nn : Word) (s : State) : State := withCost 12 (setPair p nn s)

/-- `SP` to memory at `nn`, low byte first, cost 20 (41_load16_stack R241). -/
def ldNnSp (nn : Word) (s : State) : State := withCost 20 (memWrite16 nn s.sp s)

/-- `SP <- HL`, cost 8 (41_load16_stack R242). -/
def ldSpHlOp (s : State) : State := withCost 8 { s with sp := getHl s }

/-- `HL <- SP + e` with the flags of the unsigned low-byte addition, cost 12 (41_load16_stack R243). -/
def ldHlSp (e : Byte) (s : State) : State :=
  let r := spPlus s.sp e
  withCost 12 { setHl r.1 s with f := r.2 }

/-- `Push16(r16s[pp])`, cost 16 (41_load16_stack R244). -/
def pushPair (p : StackPair) (s : State) : State := withCost 16 (push16 (getStackPair p s) s)

/-- `r16s[pp] <- Pop16()`, cost 12; `F` loses its low four bits (41_load16_stack R245). -/
def popPair (p : StackPair) (s : State) : State := withCost 12 (setStackPair p (popValue s) (popState s))

/-! ## One meaning per instruction -/

/-- `LD BC,nn` (41_load16_stack R240). -/
def execLdBcNn (nn : Word) (s : State) : Result := .next (ldPairImm .bc nn s)

/-- `LD (nn),SP` (41_load16_stack R241). -/
def execLdMemNnSp (nn : Word) (s : State) : Result := .next (ldNnSp nn s)

/-- `LD DE,nn` (41_load16_stack R240). -/
def execLdDeNn (nn : Word) (s : State) : Result := .next (ldPairImm .de nn s)

/-- `LD HL,nn` (41_load16_stack R240). -/
def execLdHlNn (nn : Word) (s : State) : Result := .next (ldPairImm .hl nn s)

/-- `LD SP,nn` (41_load16_stack R240). -/
def execLdSpNn (nn : Word) (s : State) : Result := .next (ldPairImm .sp nn s)

/-- `POP BC` (41_load16_stack R245). -/
def execPopBc (s : State) : Result := .next (popPair .bc s)

/-- `PUSH BC` (41_load16_stack R244). -/
def execPushBc (s : State) : Result := .next (pushPair .bc s)

/-- `POP DE` (41_load16_stack R245). -/
def execPopDe (s : State) : Result := .next (popPair .de s)

/-- `PUSH DE` (41_load16_stack R244). -/
def execPushDe (s : State) : Result := .next (pushPair .de s)

/-- `POP HL` (41_load16_stack R245). -/
def execPopHl (s : State) : Result := .next (popPair .hl s)

/-- `PUSH HL` (41_load16_stack R244). -/
def execPushHl (s : State) : Result := .next (pushPair .hl s)

/-- `POP AF` (41_load16_stack R245). -/
def execPopAf (s : State) : Result := .next (popPair .af s)

/-- `PUSH AF` (41_load16_stack R244). -/
def execPushAf (s : State) : Result := .next (pushPair .af s)

/-- `LD HL,SP+e` (41_load16_stack R243). -/
def execLdHlSpE (e : Byte) (s : State) : Result := .next (ldHlSp e s)

/-- `LD SP,HL` (41_load16_stack R242). -/
def execLdSpHl (s : State) : Result := .next (ldSpHlOp s)

end Sys2Proof.Machine
end

