-- ==== Sys2Proof/Machine/Load8.lean ====
section
/-! DEFINITION. The 8-bit loads (40_load8): the shared operation of each form, then one meaning per instruction. A
meaning runs on the state after the instruction's bytes have been fetched: `PC` is past the instruction. -/

namespace Sys2Proof.Machine

open Sys2Proof

/-! ## Shared operations -/

/-- `r8[ddd] <- r8[sss]`, cost 4 (40_load8 R200). -/
def ldRegReg (dst src : Reg8) (s : State) : State := withCost 4 (setReg dst (getReg src s) s)

/-- `r8[ddd] <- n`, cost 8 (40_load8 R201). -/
def ldRegImm (dst : Reg8) (n : Byte) (s : State) : State := withCost 8 (setReg dst n s)

/-- `r8[ddd] <- MemRead(HL, 1)`, cost 8 (40_load8 R202). -/
def ldRegMem (dst : Reg8) (s : State) : State := withCost 8 (setReg dst (memRead s (getHl s)) s)

/-- `MemWrite(HL, 1, r8[sss])`, cost 8 (40_load8 R203). -/
def ldMemReg (src : Reg8) (s : State) : State := withCost 8 (memWrite (getHl s) (getReg src s) s)

/-- `MemWrite(HL, 1, n)`, cost 12 (40_load8 R204). -/
def ldMemImm (n : Byte) (s : State) : State := withCost 12 (memWrite (getHl s) n s)

/-- `A <- MemRead(addr, 1)` (40_load8 R205, R206, R209, R211, R213). -/
def loadA (cost : Nat) (addr : Word) (s : State) : State := withCost cost (setReg .a (memRead s addr) s)

/-- `MemWrite(addr, 1, A)` (40_load8 R207, R208, R210, R212, R214). -/
def storeA (cost : Nat) (addr : Word) (s : State) : State := withCost cost (memWrite addr s.a s)

/-- `A <- MemRead(HL, 1)`, then `HL` moves by `move` modulo 2^16, cost 8 (40_load8 R215, R217). -/
def loadAMove (move : Word) (s : State) : State :=
  withCost 8 (setHl (getHl s + move) (setReg .a (memRead s (getHl s)) s))

/-- `MemWrite(HL, 1, A)` at the old `HL`, then `HL` moves by `move` modulo 2^16, cost 8 (40_load8 R216, R218). -/
def storeAMove (move : Word) (s : State) : State :=
  withCost 8 (setHl (getHl s + move) (memWrite (getHl s) s.a s))

/-! ## One meaning per instruction -/

/-- `LD (BC),A` (40_load8 R207). -/
def execLdMemBcA (s : State) : Result := .next (storeA 8 (getBc s) s)

/-- `LD B,n` (40_load8 R201). -/
def execLdBN (n : Byte) (s : State) : Result := .next (ldRegImm .b n s)

/-- `LD A,(BC)` (40_load8 R205). -/
def execLdAMemBc (s : State) : Result := .next (loadA 8 (getBc s) s)

/-- `LD C,n` (40_load8 R201). -/
def execLdCN (n : Byte) (s : State) : Result := .next (ldRegImm .c n s)

/-- `LD (DE),A` (40_load8 R208). -/
def execLdMemDeA (s : State) : Result := .next (storeA 8 (getDe s) s)

/-- `LD D,n` (40_load8 R201). -/
def execLdDN (n : Byte) (s : State) : Result := .next (ldRegImm .d n s)

/-- `LD A,(DE)` (40_load8 R206). -/
def execLdAMemDe (s : State) : Result := .next (loadA 8 (getDe s) s)

/-- `LD E,n` (40_load8 R201). -/
def execLdEN (n : Byte) (s : State) : Result := .next (ldRegImm .e n s)

/-- `LD (HL+),A` (40_load8 R218). -/
def execLdMemHlIncA (s : State) : Result := .next (storeAMove 1#16 s)

/-- `LD H,n` (40_load8 R201). -/
def execLdHN (n : Byte) (s : State) : Result := .next (ldRegImm .h n s)

/-- `LD A,(HL+)` (40_load8 R217). -/
def execLdAMemHlInc (s : State) : Result := .next (loadAMove 1#16 s)

/-- `LD L,n` (40_load8 R201). -/
def execLdLN (n : Byte) (s : State) : Result := .next (ldRegImm .l n s)

/-- `LD (HL-),A` (40_load8 R216). -/
def execLdMemHlDecA (s : State) : Result := .next (storeAMove (-1#16) s)

/-- `LD (HL),n` (40_load8 R204). -/
def execLdMemHlN (n : Byte) (s : State) : Result := .next (ldMemImm n s)

/-- `LD A,(HL-)` (40_load8 R215). -/
def execLdAMemHlDec (s : State) : Result := .next (loadAMove (-1#16) s)

/-- `LD A,n` (40_load8 R201). -/
def execLdAN (n : Byte) (s : State) : Result := .next (ldRegImm .a n s)

/-- `LD B,B` (40_load8 R200). -/
def execLdBB (s : State) : Result := .next (ldRegReg .b .b s)

/-- `LD B,C` (40_load8 R200). -/
def execLdBC (s : State) : Result := .next (ldRegReg .b .c s)

/-- `LD B,D` (40_load8 R200). -/
def execLdBD (s : State) : Result := .next (ldRegReg .b .d s)

/-- `LD B,E` (40_load8 R200). -/
def execLdBE (s : State) : Result := .next (ldRegReg .b .e s)

/-- `LD B,H` (40_load8 R200). -/
def execLdBH (s : State) : Result := .next (ldRegReg .b .h s)

/-- `LD B,L` (40_load8 R200). -/
def execLdBL (s : State) : Result := .next (ldRegReg .b .l s)

/-- `LD B,(HL)` (40_load8 R202). -/
def execLdBMemHl (s : State) : Result := .next (ldRegMem .b s)

/-- `LD B,A` (40_load8 R200). -/
def execLdBA (s : State) : Result := .next (ldRegReg .b .a s)

/-- `LD C,B` (40_load8 R200). -/
def execLdCB (s : State) : Result := .next (ldRegReg .c .b s)

/-- `LD C,C` (40_load8 R200). -/
def execLdCC (s : State) : Result := .next (ldRegReg .c .c s)

/-- `LD C,D` (40_load8 R200). -/
def execLdCD (s : State) : Result := .next (ldRegReg .c .d s)

/-- `LD C,E` (40_load8 R200). -/
def execLdCE (s : State) : Result := .next (ldRegReg .c .e s)

/-- `LD C,H` (40_load8 R200). -/
def execLdCH (s : State) : Result := .next (ldRegReg .c .h s)

/-- `LD C,L` (40_load8 R200). -/
def execLdCL (s : State) : Result := .next (ldRegReg .c .l s)

/-- `LD C,(HL)` (40_load8 R202). -/
def execLdCMemHl (s : State) : Result := .next (ldRegMem .c s)

/-- `LD C,A` (40_load8 R200). -/
def execLdCA (s : State) : Result := .next (ldRegReg .c .a s)

/-- `LD D,B` (40_load8 R200). -/
def execLdDB (s : State) : Result := .next (ldRegReg .d .b s)

/-- `LD D,C` (40_load8 R200). -/
def execLdDC (s : State) : Result := .next (ldRegReg .d .c s)

/-- `LD D,D` (40_load8 R200). -/
def execLdDD (s : State) : Result := .next (ldRegReg .d .d s)

/-- `LD D,E` (40_load8 R200). -/
def execLdDE (s : State) : Result := .next (ldRegReg .d .e s)

/-- `LD D,H` (40_load8 R200). -/
def execLdDH (s : State) : Result := .next (ldRegReg .d .h s)

/-- `LD D,L` (40_load8 R200). -/
def execLdDL (s : State) : Result := .next (ldRegReg .d .l s)

/-- `LD D,(HL)` (40_load8 R202). -/
def execLdDMemHl (s : State) : Result := .next (ldRegMem .d s)

/-- `LD D,A` (40_load8 R200). -/
def execLdDA (s : State) : Result := .next (ldRegReg .d .a s)

/-- `LD E,B` (40_load8 R200). -/
def execLdEB (s : State) : Result := .next (ldRegReg .e .b s)

/-- `LD E,C` (40_load8 R200). -/
def execLdEC (s : State) : Result := .next (ldRegReg .e .c s)

/-- `LD E,D` (40_load8 R200). -/
def execLdED (s : State) : Result := .next (ldRegReg .e .d s)

/-- `LD E,E` (40_load8 R200). -/
def execLdEE (s : State) : Result := .next (ldRegReg .e .e s)

/-- `LD E,H` (40_load8 R200). -/
def execLdEH (s : State) : Result := .next (ldRegReg .e .h s)

/-- `LD E,L` (40_load8 R200). -/
def execLdEL (s : State) : Result := .next (ldRegReg .e .l s)

/-- `LD E,(HL)` (40_load8 R202). -/
def execLdEMemHl (s : State) : Result := .next (ldRegMem .e s)

/-- `LD E,A` (40_load8 R200). -/
def execLdEA (s : State) : Result := .next (ldRegReg .e .a s)

/-- `LD H,B` (40_load8 R200). -/
def execLdHB (s : State) : Result := .next (ldRegReg .h .b s)

/-- `LD H,C` (40_load8 R200). -/
def execLdHC (s : State) : Result := .next (ldRegReg .h .c s)

/-- `LD H,D` (40_load8 R200). -/
def execLdHD (s : State) : Result := .next (ldRegReg .h .d s)

/-- `LD H,E` (40_load8 R200). -/
def execLdHE (s : State) : Result := .next (ldRegReg .h .e s)

/-- `LD H,H` (40_load8 R200). -/
def execLdHH (s : State) : Result := .next (ldRegReg .h .h s)

/-- `LD H,L` (40_load8 R200). -/
def execLdHL (s : State) : Result := .next (ldRegReg .h .l s)

/-- `LD H,(HL)` (40_load8 R202). -/
def execLdHMemHl (s : State) : Result := .next (ldRegMem .h s)

/-- `LD H,A` (40_load8 R200). -/
def execLdHA (s : State) : Result := .next (ldRegReg .h .a s)

/-- `LD L,B` (40_load8 R200). -/
def execLdLB (s : State) : Result := .next (ldRegReg .l .b s)

/-- `LD L,C` (40_load8 R200). -/
def execLdLC (s : State) : Result := .next (ldRegReg .l .c s)

/-- `LD L,D` (40_load8 R200). -/
def execLdLD (s : State) : Result := .next (ldRegReg .l .d s)

/-- `LD L,E` (40_load8 R200). -/
def execLdLE (s : State) : Result := .next (ldRegReg .l .e s)

/-- `LD L,H` (40_load8 R200). -/
def execLdLH (s : State) : Result := .next (ldRegReg .l .h s)

/-- `LD L,L` (40_load8 R200). -/
def execLdLL (s : State) : Result := .next (ldRegReg .l .l s)

/-- `LD L,(HL)` (40_load8 R202). -/
def execLdLMemHl (s : State) : Result := .next (ldRegMem .l s)

/-- `LD L,A` (40_load8 R200). -/
def execLdLA (s : State) : Result := .next (ldRegReg .l .a s)

/-- `LD (HL),B` (40_load8 R203). -/
def execLdMemHlB (s : State) : Result := .next (ldMemReg .b s)

/-- `LD (HL),C` (40_load8 R203). -/
def execLdMemHlC (s : State) : Result := .next (ldMemReg .c s)

/-- `LD (HL),D` (40_load8 R203). -/
def execLdMemHlD (s : State) : Result := .next (ldMemReg .d s)

/-- `LD (HL),E` (40_load8 R203). -/
def execLdMemHlE (s : State) : Result := .next (ldMemReg .e s)

/-- `LD (HL),H` (40_load8 R203). -/
def execLdMemHlH (s : State) : Result := .next (ldMemReg .h s)

/-- `LD (HL),L` (40_load8 R203). -/
def execLdMemHlL (s : State) : Result := .next (ldMemReg .l s)

/-- `LD (HL),A` (40_load8 R203). -/
def execLdMemHlA (s : State) : Result := .next (ldMemReg .a s)

/-- `LD A,B` (40_load8 R200). -/
def execLdAB (s : State) : Result := .next (ldRegReg .a .b s)

/-- `LD A,C` (40_load8 R200). -/
def execLdAC (s : State) : Result := .next (ldRegReg .a .c s)

/-- `LD A,D` (40_load8 R200). -/
def execLdAD (s : State) : Result := .next (ldRegReg .a .d s)

/-- `LD A,E` (40_load8 R200). -/
def execLdAE (s : State) : Result := .next (ldRegReg .a .e s)

/-- `LD A,H` (40_load8 R200). -/
def execLdAH (s : State) : Result := .next (ldRegReg .a .h s)

/-- `LD A,L` (40_load8 R200). -/
def execLdAL (s : State) : Result := .next (ldRegReg .a .l s)

/-- `LD A,(HL)` (40_load8 R202). -/
def execLdAMemHl (s : State) : Result := .next (ldRegMem .a s)

/-- `LD A,A` (40_load8 R200). -/
def execLdAA (s : State) : Result := .next (ldRegReg .a .a s)

/-- `LDH (n),A` (40_load8 R214). -/
def execLdhMemNA (n : Byte) (s : State) : Result := .next (storeA 12 (highPage n) s)

/-- `LDH (C),A` (40_load8 R212). -/
def execLdhMemCA (s : State) : Result := .next (storeA 8 (highPage s.c) s)

/-- `LD (nn),A` (40_load8 R210). -/
def execLdMemNnA (nn : Word) (s : State) : Result := .next (storeA 16 nn s)

/-- `LDH A,(n)` (40_load8 R213). -/
def execLdhAMemN (n : Byte) (s : State) : Result := .next (loadA 12 (highPage n) s)

/-- `LDH A,(C)` (40_load8 R211). -/
def execLdhAMemC (s : State) : Result := .next (loadA 8 (highPage s.c) s)

/-- `LD A,(nn)` (40_load8 R209). -/
def execLdAMemNn (nn : Word) (s : State) : Result := .next (loadA 16 nn s)

end Sys2Proof.Machine
end

