-- ==== Sys2Proof/Machine/RotShift.lean ====
section
/-! DEFINITION. The rotate, shift and bit instructions (44_rotate_shift_bit): the shared operation of each form, then one
meaning per instruction, each on the state after the fetch. -/

namespace Sys2Proof.Machine

open Sys2Proof

/-! ## Shared operations -/

/-- The accumulator rotates: `A` rotated, `fZ` cleared whatever the result, cost 4 (44_rotate_shift_bit R310 to R313). -/
def accRot (op : RotOp) (s : State) : State :=
  let r := rotResult op s.a (cOf s.f)
  withCost 4 { s with a := r.1, f := accRotFlags r.2 }

/-- The cost of a CB-page instruction that writes its operand (44_rotate_shift_bit R314). -/
def cbWriteCost (o : Opnd) : Nat :=
  match o with
  | .reg _ => 8
  | .memHl => 16

/-- The cost of `BIT` (44_rotate_shift_bit R314). -/
def cbReadCost (o : Opnd) : Nat :=
  match o with
  | .reg _ => 8
  | .memHl => 12

/-- A rotate, a shift or `SWAP` of the CB page: one read, then one write (44_rotate_shift_bit R314 to R322). -/
def rotOpnd (op : RotOp) (o : Opnd) (s : State) : State :=
  let r := rotResult op (getOpnd o s) (cOf s.f)
  withCost (cbWriteCost o) { setOpnd o r.1 s with f := rotFlags r.1 r.2 }

/-- `BIT b,s`: no write (44_rotate_shift_bit R323). -/
def bitOpnd (k : BitVec 3) (o : Opnd) (s : State) : State :=
  withCost (cbReadCost o) { s with f := bitFlags k (getOpnd o s) s.f }

/-- `RES b,s`: always writes (44_rotate_shift_bit R324). -/
def resOpnd (k : BitVec 3) (o : Opnd) (s : State) : State :=
  withCost (cbWriteCost o) (setOpnd o (resetBit k (getOpnd o s)) s)

/-- `SET b,s`: always writes (44_rotate_shift_bit R325). -/
def setOpndBit (k : BitVec 3) (o : Opnd) (s : State) : State :=
  withCost (cbWriteCost o) (setOpnd o (setBit k (getOpnd o s)) s)

/-- The entry of the CB page that `op2` selects, by its fields `x`, `y`, `z` (30_encoding R162, R180). -/
def cbEntry (op2 : Byte) (s : State) : State :=
  match (op2.extractLsb' 6 2).toNat with
  | 0 => rotOpnd (RotOp.ofCode (op2.extractLsb' 3 3)) (Opnd.ofCode (op2.extractLsb' 0 3)) s
  | 1 => bitOpnd (op2.extractLsb' 3 3) (Opnd.ofCode (op2.extractLsb' 0 3)) s
  | 2 => resOpnd (op2.extractLsb' 3 3) (Opnd.ofCode (op2.extractLsb' 0 3)) s
  | _ => setOpndBit (op2.extractLsb' 3 3) (Opnd.ofCode (op2.extractLsb' 0 3)) s

/-! ## One meaning per instruction -/

/-- `RLCA` (44_rotate_shift_bit R310). -/
def execRlca (s : State) : Result := .next (accRot .rlc s)

/-- `RRCA` (44_rotate_shift_bit R311). -/
def execRrca (s : State) : Result := .next (accRot .rrc s)

/-- `RLA` (44_rotate_shift_bit R312). -/
def execRla (s : State) : Result := .next (accRot .rl s)

/-- `RRA` (44_rotate_shift_bit R313). -/
def execRra (s : State) : Result := .next (accRot .rr s)

/-- `RLC B` (44_rotate_shift_bit R315). -/
def execRlcB (s : State) : Result := .next (rotOpnd .rlc (.reg .b) s)

/-- `RLC C` (44_rotate_shift_bit R315). -/
def execRlcC (s : State) : Result := .next (rotOpnd .rlc (.reg .c) s)

/-- `RLC D` (44_rotate_shift_bit R315). -/
def execRlcD (s : State) : Result := .next (rotOpnd .rlc (.reg .d) s)

/-- `RLC E` (44_rotate_shift_bit R315). -/
def execRlcE (s : State) : Result := .next (rotOpnd .rlc (.reg .e) s)

/-- `RLC H` (44_rotate_shift_bit R315). -/
def execRlcH (s : State) : Result := .next (rotOpnd .rlc (.reg .h) s)

/-- `RLC L` (44_rotate_shift_bit R315). -/
def execRlcL (s : State) : Result := .next (rotOpnd .rlc (.reg .l) s)

/-- `RLC (HL)` (44_rotate_shift_bit R315). -/
def execRlcMemHl (s : State) : Result := .next (rotOpnd .rlc .memHl s)

/-- `RLC A` (44_rotate_shift_bit R315). -/
def execRlcA (s : State) : Result := .next (rotOpnd .rlc (.reg .a) s)

/-- `RRC B` (44_rotate_shift_bit R316). -/
def execRrcB (s : State) : Result := .next (rotOpnd .rrc (.reg .b) s)

/-- `RRC C` (44_rotate_shift_bit R316). -/
def execRrcC (s : State) : Result := .next (rotOpnd .rrc (.reg .c) s)

/-- `RRC D` (44_rotate_shift_bit R316). -/
def execRrcD (s : State) : Result := .next (rotOpnd .rrc (.reg .d) s)

/-- `RRC E` (44_rotate_shift_bit R316). -/
def execRrcE (s : State) : Result := .next (rotOpnd .rrc (.reg .e) s)

/-- `RRC H` (44_rotate_shift_bit R316). -/
def execRrcH (s : State) : Result := .next (rotOpnd .rrc (.reg .h) s)

/-- `RRC L` (44_rotate_shift_bit R316). -/
def execRrcL (s : State) : Result := .next (rotOpnd .rrc (.reg .l) s)

/-- `RRC (HL)` (44_rotate_shift_bit R316). -/
def execRrcMemHl (s : State) : Result := .next (rotOpnd .rrc .memHl s)

/-- `RRC A` (44_rotate_shift_bit R316). -/
def execRrcA (s : State) : Result := .next (rotOpnd .rrc (.reg .a) s)

/-- `RL B` (44_rotate_shift_bit R317). -/
def execRlB (s : State) : Result := .next (rotOpnd .rl (.reg .b) s)

/-- `RL C` (44_rotate_shift_bit R317). -/
def execRlC (s : State) : Result := .next (rotOpnd .rl (.reg .c) s)

/-- `RL D` (44_rotate_shift_bit R317). -/
def execRlD (s : State) : Result := .next (rotOpnd .rl (.reg .d) s)

/-- `RL E` (44_rotate_shift_bit R317). -/
def execRlE (s : State) : Result := .next (rotOpnd .rl (.reg .e) s)

/-- `RL H` (44_rotate_shift_bit R317). -/
def execRlH (s : State) : Result := .next (rotOpnd .rl (.reg .h) s)

/-- `RL L` (44_rotate_shift_bit R317). -/
def execRlL (s : State) : Result := .next (rotOpnd .rl (.reg .l) s)

/-- `RL (HL)` (44_rotate_shift_bit R317). -/
def execRlMemHl (s : State) : Result := .next (rotOpnd .rl .memHl s)

/-- `RL A` (44_rotate_shift_bit R317). -/
def execRlA (s : State) : Result := .next (rotOpnd .rl (.reg .a) s)

/-- `RR B` (44_rotate_shift_bit R318). -/
def execRrB (s : State) : Result := .next (rotOpnd .rr (.reg .b) s)

/-- `RR C` (44_rotate_shift_bit R318). -/
def execRrC (s : State) : Result := .next (rotOpnd .rr (.reg .c) s)

/-- `RR D` (44_rotate_shift_bit R318). -/
def execRrD (s : State) : Result := .next (rotOpnd .rr (.reg .d) s)

/-- `RR E` (44_rotate_shift_bit R318). -/
def execRrE (s : State) : Result := .next (rotOpnd .rr (.reg .e) s)

/-- `RR H` (44_rotate_shift_bit R318). -/
def execRrH (s : State) : Result := .next (rotOpnd .rr (.reg .h) s)

/-- `RR L` (44_rotate_shift_bit R318). -/
def execRrL (s : State) : Result := .next (rotOpnd .rr (.reg .l) s)

/-- `RR (HL)` (44_rotate_shift_bit R318). -/
def execRrMemHl (s : State) : Result := .next (rotOpnd .rr .memHl s)

/-- `RR A` (44_rotate_shift_bit R318). -/
def execRrA (s : State) : Result := .next (rotOpnd .rr (.reg .a) s)

/-- `SLA B` (44_rotate_shift_bit R319). -/
def execSlaB (s : State) : Result := .next (rotOpnd .sla (.reg .b) s)

/-- `SLA C` (44_rotate_shift_bit R319). -/
def execSlaC (s : State) : Result := .next (rotOpnd .sla (.reg .c) s)

/-- `SLA D` (44_rotate_shift_bit R319). -/
def execSlaD (s : State) : Result := .next (rotOpnd .sla (.reg .d) s)

/-- `SLA E` (44_rotate_shift_bit R319). -/
def execSlaE (s : State) : Result := .next (rotOpnd .sla (.reg .e) s)

/-- `SLA H` (44_rotate_shift_bit R319). -/
def execSlaH (s : State) : Result := .next (rotOpnd .sla (.reg .h) s)

/-- `SLA L` (44_rotate_shift_bit R319). -/
def execSlaL (s : State) : Result := .next (rotOpnd .sla (.reg .l) s)

/-- `SLA (HL)` (44_rotate_shift_bit R319). -/
def execSlaMemHl (s : State) : Result := .next (rotOpnd .sla .memHl s)

/-- `SLA A` (44_rotate_shift_bit R319). -/
def execSlaA (s : State) : Result := .next (rotOpnd .sla (.reg .a) s)

/-- `SRA B` (44_rotate_shift_bit R320). -/
def execSraB (s : State) : Result := .next (rotOpnd .sra (.reg .b) s)

/-- `SRA C` (44_rotate_shift_bit R320). -/
def execSraC (s : State) : Result := .next (rotOpnd .sra (.reg .c) s)

/-- `SRA D` (44_rotate_shift_bit R320). -/
def execSraD (s : State) : Result := .next (rotOpnd .sra (.reg .d) s)

/-- `SRA E` (44_rotate_shift_bit R320). -/
def execSraE (s : State) : Result := .next (rotOpnd .sra (.reg .e) s)

/-- `SRA H` (44_rotate_shift_bit R320). -/
def execSraH (s : State) : Result := .next (rotOpnd .sra (.reg .h) s)

/-- `SRA L` (44_rotate_shift_bit R320). -/
def execSraL (s : State) : Result := .next (rotOpnd .sra (.reg .l) s)

/-- `SRA (HL)` (44_rotate_shift_bit R320). -/
def execSraMemHl (s : State) : Result := .next (rotOpnd .sra .memHl s)

/-- `SRA A` (44_rotate_shift_bit R320). -/
def execSraA (s : State) : Result := .next (rotOpnd .sra (.reg .a) s)

/-- `SWAP B` (44_rotate_shift_bit R321). -/
def execSwapB (s : State) : Result := .next (rotOpnd .swap (.reg .b) s)

/-- `SWAP C` (44_rotate_shift_bit R321). -/
def execSwapC (s : State) : Result := .next (rotOpnd .swap (.reg .c) s)

/-- `SWAP D` (44_rotate_shift_bit R321). -/
def execSwapD (s : State) : Result := .next (rotOpnd .swap (.reg .d) s)

/-- `SWAP E` (44_rotate_shift_bit R321). -/
def execSwapE (s : State) : Result := .next (rotOpnd .swap (.reg .e) s)

/-- `SWAP H` (44_rotate_shift_bit R321). -/
def execSwapH (s : State) : Result := .next (rotOpnd .swap (.reg .h) s)

/-- `SWAP L` (44_rotate_shift_bit R321). -/
def execSwapL (s : State) : Result := .next (rotOpnd .swap (.reg .l) s)

/-- `SWAP (HL)` (44_rotate_shift_bit R321). -/
def execSwapMemHl (s : State) : Result := .next (rotOpnd .swap .memHl s)

/-- `SWAP A` (44_rotate_shift_bit R321). -/
def execSwapA (s : State) : Result := .next (rotOpnd .swap (.reg .a) s)

/-- `SRL B` (44_rotate_shift_bit R322). -/
def execSrlB (s : State) : Result := .next (rotOpnd .srl (.reg .b) s)

/-- `SRL C` (44_rotate_shift_bit R322). -/
def execSrlC (s : State) : Result := .next (rotOpnd .srl (.reg .c) s)

/-- `SRL D` (44_rotate_shift_bit R322). -/
def execSrlD (s : State) : Result := .next (rotOpnd .srl (.reg .d) s)

/-- `SRL E` (44_rotate_shift_bit R322). -/
def execSrlE (s : State) : Result := .next (rotOpnd .srl (.reg .e) s)

/-- `SRL H` (44_rotate_shift_bit R322). -/
def execSrlH (s : State) : Result := .next (rotOpnd .srl (.reg .h) s)

/-- `SRL L` (44_rotate_shift_bit R322). -/
def execSrlL (s : State) : Result := .next (rotOpnd .srl (.reg .l) s)

/-- `SRL (HL)` (44_rotate_shift_bit R322). -/
def execSrlMemHl (s : State) : Result := .next (rotOpnd .srl .memHl s)

/-- `SRL A` (44_rotate_shift_bit R322). -/
def execSrlA (s : State) : Result := .next (rotOpnd .srl (.reg .a) s)

/-- `BIT 0,B` (44_rotate_shift_bit R323). -/
def execBit0B (s : State) : Result := .next (bitOpnd 0#3 (.reg .b) s)

/-- `BIT 0,C` (44_rotate_shift_bit R323). -/
def execBit0C (s : State) : Result := .next (bitOpnd 0#3 (.reg .c) s)

/-- `BIT 0,D` (44_rotate_shift_bit R323). -/
def execBit0D (s : State) : Result := .next (bitOpnd 0#3 (.reg .d) s)

/-- `BIT 0,E` (44_rotate_shift_bit R323). -/
def execBit0E (s : State) : Result := .next (bitOpnd 0#3 (.reg .e) s)

/-- `BIT 0,H` (44_rotate_shift_bit R323). -/
def execBit0H (s : State) : Result := .next (bitOpnd 0#3 (.reg .h) s)

/-- `BIT 0,L` (44_rotate_shift_bit R323). -/
def execBit0L (s : State) : Result := .next (bitOpnd 0#3 (.reg .l) s)

/-- `BIT 0,(HL)` (44_rotate_shift_bit R323). -/
def execBit0MemHl (s : State) : Result := .next (bitOpnd 0#3 .memHl s)

/-- `BIT 0,A` (44_rotate_shift_bit R323). -/
def execBit0A (s : State) : Result := .next (bitOpnd 0#3 (.reg .a) s)

/-- `BIT 1,B` (44_rotate_shift_bit R323). -/
def execBit1B (s : State) : Result := .next (bitOpnd 1#3 (.reg .b) s)

/-- `BIT 1,C` (44_rotate_shift_bit R323). -/
def execBit1C (s : State) : Result := .next (bitOpnd 1#3 (.reg .c) s)

/-- `BIT 1,D` (44_rotate_shift_bit R323). -/
def execBit1D (s : State) : Result := .next (bitOpnd 1#3 (.reg .d) s)

/-- `BIT 1,E` (44_rotate_shift_bit R323). -/
def execBit1E (s : State) : Result := .next (bitOpnd 1#3 (.reg .e) s)

/-- `BIT 1,H` (44_rotate_shift_bit R323). -/
def execBit1H (s : State) : Result := .next (bitOpnd 1#3 (.reg .h) s)

/-- `BIT 1,L` (44_rotate_shift_bit R323). -/
def execBit1L (s : State) : Result := .next (bitOpnd 1#3 (.reg .l) s)

/-- `BIT 1,(HL)` (44_rotate_shift_bit R323). -/
def execBit1MemHl (s : State) : Result := .next (bitOpnd 1#3 .memHl s)

/-- `BIT 1,A` (44_rotate_shift_bit R323). -/
def execBit1A (s : State) : Result := .next (bitOpnd 1#3 (.reg .a) s)

/-- `BIT 2,B` (44_rotate_shift_bit R323). -/
def execBit2B (s : State) : Result := .next (bitOpnd 2#3 (.reg .b) s)

/-- `BIT 2,C` (44_rotate_shift_bit R323). -/
def execBit2C (s : State) : Result := .next (bitOpnd 2#3 (.reg .c) s)

/-- `BIT 2,D` (44_rotate_shift_bit R323). -/
def execBit2D (s : State) : Result := .next (bitOpnd 2#3 (.reg .d) s)

/-- `BIT 2,E` (44_rotate_shift_bit R323). -/
def execBit2E (s : State) : Result := .next (bitOpnd 2#3 (.reg .e) s)

/-- `BIT 2,H` (44_rotate_shift_bit R323). -/
def execBit2H (s : State) : Result := .next (bitOpnd 2#3 (.reg .h) s)

/-- `BIT 2,L` (44_rotate_shift_bit R323). -/
def execBit2L (s : State) : Result := .next (bitOpnd 2#3 (.reg .l) s)

/-- `BIT 2,(HL)` (44_rotate_shift_bit R323). -/
def execBit2MemHl (s : State) : Result := .next (bitOpnd 2#3 .memHl s)

/-- `BIT 2,A` (44_rotate_shift_bit R323). -/
def execBit2A (s : State) : Result := .next (bitOpnd 2#3 (.reg .a) s)

/-- `BIT 3,B` (44_rotate_shift_bit R323). -/
def execBit3B (s : State) : Result := .next (bitOpnd 3#3 (.reg .b) s)

/-- `BIT 3,C` (44_rotate_shift_bit R323). -/
def execBit3C (s : State) : Result := .next (bitOpnd 3#3 (.reg .c) s)

/-- `BIT 3,D` (44_rotate_shift_bit R323). -/
def execBit3D (s : State) : Result := .next (bitOpnd 3#3 (.reg .d) s)

/-- `BIT 3,E` (44_rotate_shift_bit R323). -/
def execBit3E (s : State) : Result := .next (bitOpnd 3#3 (.reg .e) s)

/-- `BIT 3,H` (44_rotate_shift_bit R323). -/
def execBit3H (s : State) : Result := .next (bitOpnd 3#3 (.reg .h) s)

/-- `BIT 3,L` (44_rotate_shift_bit R323). -/
def execBit3L (s : State) : Result := .next (bitOpnd 3#3 (.reg .l) s)

/-- `BIT 3,(HL)` (44_rotate_shift_bit R323). -/
def execBit3MemHl (s : State) : Result := .next (bitOpnd 3#3 .memHl s)

/-- `BIT 3,A` (44_rotate_shift_bit R323). -/
def execBit3A (s : State) : Result := .next (bitOpnd 3#3 (.reg .a) s)

/-- `BIT 4,B` (44_rotate_shift_bit R323). -/
def execBit4B (s : State) : Result := .next (bitOpnd 4#3 (.reg .b) s)

/-- `BIT 4,C` (44_rotate_shift_bit R323). -/
def execBit4C (s : State) : Result := .next (bitOpnd 4#3 (.reg .c) s)

/-- `BIT 4,D` (44_rotate_shift_bit R323). -/
def execBit4D (s : State) : Result := .next (bitOpnd 4#3 (.reg .d) s)

/-- `BIT 4,E` (44_rotate_shift_bit R323). -/
def execBit4E (s : State) : Result := .next (bitOpnd 4#3 (.reg .e) s)

/-- `BIT 4,H` (44_rotate_shift_bit R323). -/
def execBit4H (s : State) : Result := .next (bitOpnd 4#3 (.reg .h) s)

/-- `BIT 4,L` (44_rotate_shift_bit R323). -/
def execBit4L (s : State) : Result := .next (bitOpnd 4#3 (.reg .l) s)

/-- `BIT 4,(HL)` (44_rotate_shift_bit R323). -/
def execBit4MemHl (s : State) : Result := .next (bitOpnd 4#3 .memHl s)

/-- `BIT 4,A` (44_rotate_shift_bit R323). -/
def execBit4A (s : State) : Result := .next (bitOpnd 4#3 (.reg .a) s)

/-- `BIT 5,B` (44_rotate_shift_bit R323). -/
def execBit5B (s : State) : Result := .next (bitOpnd 5#3 (.reg .b) s)

/-- `BIT 5,C` (44_rotate_shift_bit R323). -/
def execBit5C (s : State) : Result := .next (bitOpnd 5#3 (.reg .c) s)

/-- `BIT 5,D` (44_rotate_shift_bit R323). -/
def execBit5D (s : State) : Result := .next (bitOpnd 5#3 (.reg .d) s)

/-- `BIT 5,E` (44_rotate_shift_bit R323). -/
def execBit5E (s : State) : Result := .next (bitOpnd 5#3 (.reg .e) s)

/-- `BIT 5,H` (44_rotate_shift_bit R323). -/
def execBit5H (s : State) : Result := .next (bitOpnd 5#3 (.reg .h) s)

/-- `BIT 5,L` (44_rotate_shift_bit R323). -/
def execBit5L (s : State) : Result := .next (bitOpnd 5#3 (.reg .l) s)

/-- `BIT 5,(HL)` (44_rotate_shift_bit R323). -/
def execBit5MemHl (s : State) : Result := .next (bitOpnd 5#3 .memHl s)

/-- `BIT 5,A` (44_rotate_shift_bit R323). -/
def execBit5A (s : State) : Result := .next (bitOpnd 5#3 (.reg .a) s)

/-- `BIT 6,B` (44_rotate_shift_bit R323). -/
def execBit6B (s : State) : Result := .next (bitOpnd 6#3 (.reg .b) s)

/-- `BIT 6,C` (44_rotate_shift_bit R323). -/
def execBit6C (s : State) : Result := .next (bitOpnd 6#3 (.reg .c) s)

/-- `BIT 6,D` (44_rotate_shift_bit R323). -/
def execBit6D (s : State) : Result := .next (bitOpnd 6#3 (.reg .d) s)

/-- `BIT 6,E` (44_rotate_shift_bit R323). -/
def execBit6E (s : State) : Result := .next (bitOpnd 6#3 (.reg .e) s)

/-- `BIT 6,H` (44_rotate_shift_bit R323). -/
def execBit6H (s : State) : Result := .next (bitOpnd 6#3 (.reg .h) s)

/-- `BIT 6,L` (44_rotate_shift_bit R323). -/
def execBit6L (s : State) : Result := .next (bitOpnd 6#3 (.reg .l) s)

/-- `BIT 6,(HL)` (44_rotate_shift_bit R323). -/
def execBit6MemHl (s : State) : Result := .next (bitOpnd 6#3 .memHl s)

/-- `BIT 6,A` (44_rotate_shift_bit R323). -/
def execBit6A (s : State) : Result := .next (bitOpnd 6#3 (.reg .a) s)

/-- `BIT 7,B` (44_rotate_shift_bit R323). -/
def execBit7B (s : State) : Result := .next (bitOpnd 7#3 (.reg .b) s)

/-- `BIT 7,C` (44_rotate_shift_bit R323). -/
def execBit7C (s : State) : Result := .next (bitOpnd 7#3 (.reg .c) s)

/-- `BIT 7,D` (44_rotate_shift_bit R323). -/
def execBit7D (s : State) : Result := .next (bitOpnd 7#3 (.reg .d) s)

/-- `BIT 7,E` (44_rotate_shift_bit R323). -/
def execBit7E (s : State) : Result := .next (bitOpnd 7#3 (.reg .e) s)

/-- `BIT 7,H` (44_rotate_shift_bit R323). -/
def execBit7H (s : State) : Result := .next (bitOpnd 7#3 (.reg .h) s)

/-- `BIT 7,L` (44_rotate_shift_bit R323). -/
def execBit7L (s : State) : Result := .next (bitOpnd 7#3 (.reg .l) s)

/-- `BIT 7,(HL)` (44_rotate_shift_bit R323). -/
def execBit7MemHl (s : State) : Result := .next (bitOpnd 7#3 .memHl s)

/-- `BIT 7,A` (44_rotate_shift_bit R323). -/
def execBit7A (s : State) : Result := .next (bitOpnd 7#3 (.reg .a) s)

/-- `RES 0,B` (44_rotate_shift_bit R324). -/
def execRes0B (s : State) : Result := .next (resOpnd 0#3 (.reg .b) s)

/-- `RES 0,C` (44_rotate_shift_bit R324). -/
def execRes0C (s : State) : Result := .next (resOpnd 0#3 (.reg .c) s)

/-- `RES 0,D` (44_rotate_shift_bit R324). -/
def execRes0D (s : State) : Result := .next (resOpnd 0#3 (.reg .d) s)

/-- `RES 0,E` (44_rotate_shift_bit R324). -/
def execRes0E (s : State) : Result := .next (resOpnd 0#3 (.reg .e) s)

/-- `RES 0,H` (44_rotate_shift_bit R324). -/
def execRes0H (s : State) : Result := .next (resOpnd 0#3 (.reg .h) s)

/-- `RES 0,L` (44_rotate_shift_bit R324). -/
def execRes0L (s : State) : Result := .next (resOpnd 0#3 (.reg .l) s)

/-- `RES 0,(HL)` (44_rotate_shift_bit R324). -/
def execRes0MemHl (s : State) : Result := .next (resOpnd 0#3 .memHl s)

/-- `RES 0,A` (44_rotate_shift_bit R324). -/
def execRes0A (s : State) : Result := .next (resOpnd 0#3 (.reg .a) s)

/-- `RES 1,B` (44_rotate_shift_bit R324). -/
def execRes1B (s : State) : Result := .next (resOpnd 1#3 (.reg .b) s)

/-- `RES 1,C` (44_rotate_shift_bit R324). -/
def execRes1C (s : State) : Result := .next (resOpnd 1#3 (.reg .c) s)

/-- `RES 1,D` (44_rotate_shift_bit R324). -/
def execRes1D (s : State) : Result := .next (resOpnd 1#3 (.reg .d) s)

/-- `RES 1,E` (44_rotate_shift_bit R324). -/
def execRes1E (s : State) : Result := .next (resOpnd 1#3 (.reg .e) s)

/-- `RES 1,H` (44_rotate_shift_bit R324). -/
def execRes1H (s : State) : Result := .next (resOpnd 1#3 (.reg .h) s)

/-- `RES 1,L` (44_rotate_shift_bit R324). -/
def execRes1L (s : State) : Result := .next (resOpnd 1#3 (.reg .l) s)

/-- `RES 1,(HL)` (44_rotate_shift_bit R324). -/
def execRes1MemHl (s : State) : Result := .next (resOpnd 1#3 .memHl s)

/-- `RES 1,A` (44_rotate_shift_bit R324). -/
def execRes1A (s : State) : Result := .next (resOpnd 1#3 (.reg .a) s)

/-- `RES 2,B` (44_rotate_shift_bit R324). -/
def execRes2B (s : State) : Result := .next (resOpnd 2#3 (.reg .b) s)

/-- `RES 2,C` (44_rotate_shift_bit R324). -/
def execRes2C (s : State) : Result := .next (resOpnd 2#3 (.reg .c) s)

/-- `RES 2,D` (44_rotate_shift_bit R324). -/
def execRes2D (s : State) : Result := .next (resOpnd 2#3 (.reg .d) s)

/-- `RES 2,E` (44_rotate_shift_bit R324). -/
def execRes2E (s : State) : Result := .next (resOpnd 2#3 (.reg .e) s)

/-- `RES 2,H` (44_rotate_shift_bit R324). -/
def execRes2H (s : State) : Result := .next (resOpnd 2#3 (.reg .h) s)

/-- `RES 2,L` (44_rotate_shift_bit R324). -/
def execRes2L (s : State) : Result := .next (resOpnd 2#3 (.reg .l) s)

/-- `RES 2,(HL)` (44_rotate_shift_bit R324). -/
def execRes2MemHl (s : State) : Result := .next (resOpnd 2#3 .memHl s)

/-- `RES 2,A` (44_rotate_shift_bit R324). -/
def execRes2A (s : State) : Result := .next (resOpnd 2#3 (.reg .a) s)

/-- `RES 3,B` (44_rotate_shift_bit R324). -/
def execRes3B (s : State) : Result := .next (resOpnd 3#3 (.reg .b) s)

/-- `RES 3,C` (44_rotate_shift_bit R324). -/
def execRes3C (s : State) : Result := .next (resOpnd 3#3 (.reg .c) s)

/-- `RES 3,D` (44_rotate_shift_bit R324). -/
def execRes3D (s : State) : Result := .next (resOpnd 3#3 (.reg .d) s)

/-- `RES 3,E` (44_rotate_shift_bit R324). -/
def execRes3E (s : State) : Result := .next (resOpnd 3#3 (.reg .e) s)

/-- `RES 3,H` (44_rotate_shift_bit R324). -/
def execRes3H (s : State) : Result := .next (resOpnd 3#3 (.reg .h) s)

/-- `RES 3,L` (44_rotate_shift_bit R324). -/
def execRes3L (s : State) : Result := .next (resOpnd 3#3 (.reg .l) s)

/-- `RES 3,(HL)` (44_rotate_shift_bit R324). -/
def execRes3MemHl (s : State) : Result := .next (resOpnd 3#3 .memHl s)

/-- `RES 3,A` (44_rotate_shift_bit R324). -/
def execRes3A (s : State) : Result := .next (resOpnd 3#3 (.reg .a) s)

/-- `RES 4,B` (44_rotate_shift_bit R324). -/
def execRes4B (s : State) : Result := .next (resOpnd 4#3 (.reg .b) s)

/-- `RES 4,C` (44_rotate_shift_bit R324). -/
def execRes4C (s : State) : Result := .next (resOpnd 4#3 (.reg .c) s)

/-- `RES 4,D` (44_rotate_shift_bit R324). -/
def execRes4D (s : State) : Result := .next (resOpnd 4#3 (.reg .d) s)

/-- `RES 4,E` (44_rotate_shift_bit R324). -/
def execRes4E (s : State) : Result := .next (resOpnd 4#3 (.reg .e) s)

/-- `RES 4,H` (44_rotate_shift_bit R324). -/
def execRes4H (s : State) : Result := .next (resOpnd 4#3 (.reg .h) s)

/-- `RES 4,L` (44_rotate_shift_bit R324). -/
def execRes4L (s : State) : Result := .next (resOpnd 4#3 (.reg .l) s)

/-- `RES 4,(HL)` (44_rotate_shift_bit R324). -/
def execRes4MemHl (s : State) : Result := .next (resOpnd 4#3 .memHl s)

/-- `RES 4,A` (44_rotate_shift_bit R324). -/
def execRes4A (s : State) : Result := .next (resOpnd 4#3 (.reg .a) s)

/-- `RES 5,B` (44_rotate_shift_bit R324). -/
def execRes5B (s : State) : Result := .next (resOpnd 5#3 (.reg .b) s)

/-- `RES 5,C` (44_rotate_shift_bit R324). -/
def execRes5C (s : State) : Result := .next (resOpnd 5#3 (.reg .c) s)

/-- `RES 5,D` (44_rotate_shift_bit R324). -/
def execRes5D (s : State) : Result := .next (resOpnd 5#3 (.reg .d) s)

/-- `RES 5,E` (44_rotate_shift_bit R324). -/
def execRes5E (s : State) : Result := .next (resOpnd 5#3 (.reg .e) s)

/-- `RES 5,H` (44_rotate_shift_bit R324). -/
def execRes5H (s : State) : Result := .next (resOpnd 5#3 (.reg .h) s)

/-- `RES 5,L` (44_rotate_shift_bit R324). -/
def execRes5L (s : State) : Result := .next (resOpnd 5#3 (.reg .l) s)

/-- `RES 5,(HL)` (44_rotate_shift_bit R324). -/
def execRes5MemHl (s : State) : Result := .next (resOpnd 5#3 .memHl s)

/-- `RES 5,A` (44_rotate_shift_bit R324). -/
def execRes5A (s : State) : Result := .next (resOpnd 5#3 (.reg .a) s)

/-- `RES 6,B` (44_rotate_shift_bit R324). -/
def execRes6B (s : State) : Result := .next (resOpnd 6#3 (.reg .b) s)

/-- `RES 6,C` (44_rotate_shift_bit R324). -/
def execRes6C (s : State) : Result := .next (resOpnd 6#3 (.reg .c) s)

/-- `RES 6,D` (44_rotate_shift_bit R324). -/
def execRes6D (s : State) : Result := .next (resOpnd 6#3 (.reg .d) s)

/-- `RES 6,E` (44_rotate_shift_bit R324). -/
def execRes6E (s : State) : Result := .next (resOpnd 6#3 (.reg .e) s)

/-- `RES 6,H` (44_rotate_shift_bit R324). -/
def execRes6H (s : State) : Result := .next (resOpnd 6#3 (.reg .h) s)

/-- `RES 6,L` (44_rotate_shift_bit R324). -/
def execRes6L (s : State) : Result := .next (resOpnd 6#3 (.reg .l) s)

/-- `RES 6,(HL)` (44_rotate_shift_bit R324). -/
def execRes6MemHl (s : State) : Result := .next (resOpnd 6#3 .memHl s)

/-- `RES 6,A` (44_rotate_shift_bit R324). -/
def execRes6A (s : State) : Result := .next (resOpnd 6#3 (.reg .a) s)

/-- `RES 7,B` (44_rotate_shift_bit R324). -/
def execRes7B (s : State) : Result := .next (resOpnd 7#3 (.reg .b) s)

/-- `RES 7,C` (44_rotate_shift_bit R324). -/
def execRes7C (s : State) : Result := .next (resOpnd 7#3 (.reg .c) s)

/-- `RES 7,D` (44_rotate_shift_bit R324). -/
def execRes7D (s : State) : Result := .next (resOpnd 7#3 (.reg .d) s)

/-- `RES 7,E` (44_rotate_shift_bit R324). -/
def execRes7E (s : State) : Result := .next (resOpnd 7#3 (.reg .e) s)

/-- `RES 7,H` (44_rotate_shift_bit R324). -/
def execRes7H (s : State) : Result := .next (resOpnd 7#3 (.reg .h) s)

/-- `RES 7,L` (44_rotate_shift_bit R324). -/
def execRes7L (s : State) : Result := .next (resOpnd 7#3 (.reg .l) s)

/-- `RES 7,(HL)` (44_rotate_shift_bit R324). -/
def execRes7MemHl (s : State) : Result := .next (resOpnd 7#3 .memHl s)

/-- `RES 7,A` (44_rotate_shift_bit R324). -/
def execRes7A (s : State) : Result := .next (resOpnd 7#3 (.reg .a) s)

/-- `SET 0,B` (44_rotate_shift_bit R325). -/
def execSet0B (s : State) : Result := .next (setOpndBit 0#3 (.reg .b) s)

/-- `SET 0,C` (44_rotate_shift_bit R325). -/
def execSet0C (s : State) : Result := .next (setOpndBit 0#3 (.reg .c) s)

/-- `SET 0,D` (44_rotate_shift_bit R325). -/
def execSet0D (s : State) : Result := .next (setOpndBit 0#3 (.reg .d) s)

/-- `SET 0,E` (44_rotate_shift_bit R325). -/
def execSet0E (s : State) : Result := .next (setOpndBit 0#3 (.reg .e) s)

/-- `SET 0,H` (44_rotate_shift_bit R325). -/
def execSet0H (s : State) : Result := .next (setOpndBit 0#3 (.reg .h) s)

/-- `SET 0,L` (44_rotate_shift_bit R325). -/
def execSet0L (s : State) : Result := .next (setOpndBit 0#3 (.reg .l) s)

/-- `SET 0,(HL)` (44_rotate_shift_bit R325). -/
def execSet0MemHl (s : State) : Result := .next (setOpndBit 0#3 .memHl s)

/-- `SET 0,A` (44_rotate_shift_bit R325). -/
def execSet0A (s : State) : Result := .next (setOpndBit 0#3 (.reg .a) s)

/-- `SET 1,B` (44_rotate_shift_bit R325). -/
def execSet1B (s : State) : Result := .next (setOpndBit 1#3 (.reg .b) s)

/-- `SET 1,C` (44_rotate_shift_bit R325). -/
def execSet1C (s : State) : Result := .next (setOpndBit 1#3 (.reg .c) s)

/-- `SET 1,D` (44_rotate_shift_bit R325). -/
def execSet1D (s : State) : Result := .next (setOpndBit 1#3 (.reg .d) s)

/-- `SET 1,E` (44_rotate_shift_bit R325). -/
def execSet1E (s : State) : Result := .next (setOpndBit 1#3 (.reg .e) s)

/-- `SET 1,H` (44_rotate_shift_bit R325). -/
def execSet1H (s : State) : Result := .next (setOpndBit 1#3 (.reg .h) s)

/-- `SET 1,L` (44_rotate_shift_bit R325). -/
def execSet1L (s : State) : Result := .next (setOpndBit 1#3 (.reg .l) s)

/-- `SET 1,(HL)` (44_rotate_shift_bit R325). -/
def execSet1MemHl (s : State) : Result := .next (setOpndBit 1#3 .memHl s)

/-- `SET 1,A` (44_rotate_shift_bit R325). -/
def execSet1A (s : State) : Result := .next (setOpndBit 1#3 (.reg .a) s)

/-- `SET 2,B` (44_rotate_shift_bit R325). -/
def execSet2B (s : State) : Result := .next (setOpndBit 2#3 (.reg .b) s)

/-- `SET 2,C` (44_rotate_shift_bit R325). -/
def execSet2C (s : State) : Result := .next (setOpndBit 2#3 (.reg .c) s)

/-- `SET 2,D` (44_rotate_shift_bit R325). -/
def execSet2D (s : State) : Result := .next (setOpndBit 2#3 (.reg .d) s)

/-- `SET 2,E` (44_rotate_shift_bit R325). -/
def execSet2E (s : State) : Result := .next (setOpndBit 2#3 (.reg .e) s)

/-- `SET 2,H` (44_rotate_shift_bit R325). -/
def execSet2H (s : State) : Result := .next (setOpndBit 2#3 (.reg .h) s)

/-- `SET 2,L` (44_rotate_shift_bit R325). -/
def execSet2L (s : State) : Result := .next (setOpndBit 2#3 (.reg .l) s)

/-- `SET 2,(HL)` (44_rotate_shift_bit R325). -/
def execSet2MemHl (s : State) : Result := .next (setOpndBit 2#3 .memHl s)

/-- `SET 2,A` (44_rotate_shift_bit R325). -/
def execSet2A (s : State) : Result := .next (setOpndBit 2#3 (.reg .a) s)

/-- `SET 3,B` (44_rotate_shift_bit R325). -/
def execSet3B (s : State) : Result := .next (setOpndBit 3#3 (.reg .b) s)

/-- `SET 3,C` (44_rotate_shift_bit R325). -/
def execSet3C (s : State) : Result := .next (setOpndBit 3#3 (.reg .c) s)

/-- `SET 3,D` (44_rotate_shift_bit R325). -/
def execSet3D (s : State) : Result := .next (setOpndBit 3#3 (.reg .d) s)

/-- `SET 3,E` (44_rotate_shift_bit R325). -/
def execSet3E (s : State) : Result := .next (setOpndBit 3#3 (.reg .e) s)

/-- `SET 3,H` (44_rotate_shift_bit R325). -/
def execSet3H (s : State) : Result := .next (setOpndBit 3#3 (.reg .h) s)

/-- `SET 3,L` (44_rotate_shift_bit R325). -/
def execSet3L (s : State) : Result := .next (setOpndBit 3#3 (.reg .l) s)

/-- `SET 3,(HL)` (44_rotate_shift_bit R325). -/
def execSet3MemHl (s : State) : Result := .next (setOpndBit 3#3 .memHl s)

/-- `SET 3,A` (44_rotate_shift_bit R325). -/
def execSet3A (s : State) : Result := .next (setOpndBit 3#3 (.reg .a) s)

/-- `SET 4,B` (44_rotate_shift_bit R325). -/
def execSet4B (s : State) : Result := .next (setOpndBit 4#3 (.reg .b) s)

/-- `SET 4,C` (44_rotate_shift_bit R325). -/
def execSet4C (s : State) : Result := .next (setOpndBit 4#3 (.reg .c) s)

/-- `SET 4,D` (44_rotate_shift_bit R325). -/
def execSet4D (s : State) : Result := .next (setOpndBit 4#3 (.reg .d) s)

/-- `SET 4,E` (44_rotate_shift_bit R325). -/
def execSet4E (s : State) : Result := .next (setOpndBit 4#3 (.reg .e) s)

/-- `SET 4,H` (44_rotate_shift_bit R325). -/
def execSet4H (s : State) : Result := .next (setOpndBit 4#3 (.reg .h) s)

/-- `SET 4,L` (44_rotate_shift_bit R325). -/
def execSet4L (s : State) : Result := .next (setOpndBit 4#3 (.reg .l) s)

/-- `SET 4,(HL)` (44_rotate_shift_bit R325). -/
def execSet4MemHl (s : State) : Result := .next (setOpndBit 4#3 .memHl s)

/-- `SET 4,A` (44_rotate_shift_bit R325). -/
def execSet4A (s : State) : Result := .next (setOpndBit 4#3 (.reg .a) s)

/-- `SET 5,B` (44_rotate_shift_bit R325). -/
def execSet5B (s : State) : Result := .next (setOpndBit 5#3 (.reg .b) s)

/-- `SET 5,C` (44_rotate_shift_bit R325). -/
def execSet5C (s : State) : Result := .next (setOpndBit 5#3 (.reg .c) s)

/-- `SET 5,D` (44_rotate_shift_bit R325). -/
def execSet5D (s : State) : Result := .next (setOpndBit 5#3 (.reg .d) s)

/-- `SET 5,E` (44_rotate_shift_bit R325). -/
def execSet5E (s : State) : Result := .next (setOpndBit 5#3 (.reg .e) s)

/-- `SET 5,H` (44_rotate_shift_bit R325). -/
def execSet5H (s : State) : Result := .next (setOpndBit 5#3 (.reg .h) s)

/-- `SET 5,L` (44_rotate_shift_bit R325). -/
def execSet5L (s : State) : Result := .next (setOpndBit 5#3 (.reg .l) s)

/-- `SET 5,(HL)` (44_rotate_shift_bit R325). -/
def execSet5MemHl (s : State) : Result := .next (setOpndBit 5#3 .memHl s)

/-- `SET 5,A` (44_rotate_shift_bit R325). -/
def execSet5A (s : State) : Result := .next (setOpndBit 5#3 (.reg .a) s)

/-- `SET 6,B` (44_rotate_shift_bit R325). -/
def execSet6B (s : State) : Result := .next (setOpndBit 6#3 (.reg .b) s)

/-- `SET 6,C` (44_rotate_shift_bit R325). -/
def execSet6C (s : State) : Result := .next (setOpndBit 6#3 (.reg .c) s)

/-- `SET 6,D` (44_rotate_shift_bit R325). -/
def execSet6D (s : State) : Result := .next (setOpndBit 6#3 (.reg .d) s)

/-- `SET 6,E` (44_rotate_shift_bit R325). -/
def execSet6E (s : State) : Result := .next (setOpndBit 6#3 (.reg .e) s)

/-- `SET 6,H` (44_rotate_shift_bit R325). -/
def execSet6H (s : State) : Result := .next (setOpndBit 6#3 (.reg .h) s)

/-- `SET 6,L` (44_rotate_shift_bit R325). -/
def execSet6L (s : State) : Result := .next (setOpndBit 6#3 (.reg .l) s)

/-- `SET 6,(HL)` (44_rotate_shift_bit R325). -/
def execSet6MemHl (s : State) : Result := .next (setOpndBit 6#3 .memHl s)

/-- `SET 6,A` (44_rotate_shift_bit R325). -/
def execSet6A (s : State) : Result := .next (setOpndBit 6#3 (.reg .a) s)

/-- `SET 7,B` (44_rotate_shift_bit R325). -/
def execSet7B (s : State) : Result := .next (setOpndBit 7#3 (.reg .b) s)

/-- `SET 7,C` (44_rotate_shift_bit R325). -/
def execSet7C (s : State) : Result := .next (setOpndBit 7#3 (.reg .c) s)

/-- `SET 7,D` (44_rotate_shift_bit R325). -/
def execSet7D (s : State) : Result := .next (setOpndBit 7#3 (.reg .d) s)

/-- `SET 7,E` (44_rotate_shift_bit R325). -/
def execSet7E (s : State) : Result := .next (setOpndBit 7#3 (.reg .e) s)

/-- `SET 7,H` (44_rotate_shift_bit R325). -/
def execSet7H (s : State) : Result := .next (setOpndBit 7#3 (.reg .h) s)

/-- `SET 7,L` (44_rotate_shift_bit R325). -/
def execSet7L (s : State) : Result := .next (setOpndBit 7#3 (.reg .l) s)

/-- `SET 7,(HL)` (44_rotate_shift_bit R325). -/
def execSet7MemHl (s : State) : Result := .next (setOpndBit 7#3 .memHl s)

/-- `SET 7,A` (44_rotate_shift_bit R325). -/
def execSet7A (s : State) : Result := .next (setOpndBit 7#3 (.reg .a) s)

end Sys2Proof.Machine
end

