-- ==== Sys2Proof/Machine/System.lean ====
section
/-! DEFINITION. The system instructions (46_system): no operation, halt, stop, the interrupt enables, the prefix byte and
the eleven undefined opcodes. Each runs on the state after the fetch, but for the undefined opcodes: these run on the
state before it, because decoding fails before `PC` moves (46_system R376, 60_exceptions R405). -/

namespace Sys2Proof.Machine

open Sys2Proof

/-! ## Shared operations -/

/-- `HALT`, cost 4: arm the halt quirk if `IME = 0` and a request is pending, else halt (46_system R371). -/
def haltOp (s : State) : State :=
  withCost 4 (if s.ime = false ∧ pendingSet s ≠ 0#5 then { s with haltBug := true } else { s with mode := .halted })

/-- `STOP`, cost 4; its second byte has been fetched and is ignored (46_system R372). -/
def stopOp (s : State) : State := withCost 4 { s with mode := .stopped }

/-- `DI`, cost 4 (46_system R373). -/
def diOp (s : State) : State := withCost 4 { setMasterEnable false s with imePending := false }

/-- `EI`, cost 4 (46_system R374). -/
def eiOp (s : State) : State := withCost 4 { s with imePending := true }

/-- The prefix byte: `op2 <- Fetch8()`, then the CB-page instruction `op2` selects, at its cost (46_system R375). -/
def prefixOp (s : State) : State := cbEntry (memRead s s.pc) { s with pc := s.pc + 1#16 }

/-! ## One meaning per instruction -/

/-- `NOP` (46_system R370). -/
def execNop (s : State) : Result := .next (withCost 4 s)

/-- `STOP` (46_system R372). -/
def execStop (_n : Byte) (s : State) : Result := .next (stopOp s)

/-- `HALT` (46_system R371). -/
def execHalt (s : State) : Result := .next (haltOp s)

/-- `PREFIX CB` (46_system R375). -/
def execPrefixCb (s : State) : Result := .next (prefixOp s)

/-- `ILLEGAL_D3` (46_system R376). -/
def execIllegalD3 (s : State) : Result := .next (raiseUndefined 0xD3#8 s)

/-- `ILLEGAL_DB` (46_system R376). -/
def execIllegalDB (s : State) : Result := .next (raiseUndefined 0xDB#8 s)

/-- `ILLEGAL_DD` (46_system R376). -/
def execIllegalDD (s : State) : Result := .next (raiseUndefined 0xDD#8 s)

/-- `ILLEGAL_E3` (46_system R376). -/
def execIllegalE3 (s : State) : Result := .next (raiseUndefined 0xE3#8 s)

/-- `ILLEGAL_E4` (46_system R376). -/
def execIllegalE4 (s : State) : Result := .next (raiseUndefined 0xE4#8 s)

/-- `ILLEGAL_EB` (46_system R376). -/
def execIllegalEB (s : State) : Result := .next (raiseUndefined 0xEB#8 s)

/-- `ILLEGAL_EC` (46_system R376). -/
def execIllegalEC (s : State) : Result := .next (raiseUndefined 0xEC#8 s)

/-- `ILLEGAL_ED` (46_system R376). -/
def execIllegalED (s : State) : Result := .next (raiseUndefined 0xED#8 s)

/-- `DI` (46_system R373). -/
def execDi (s : State) : Result := .next (diOp s)

/-- `ILLEGAL_F4` (46_system R376). -/
def execIllegalF4 (s : State) : Result := .next (raiseUndefined 0xF4#8 s)

/-- `EI` (46_system R374). -/
def execEi (s : State) : Result := .next (eiOp s)

/-- `ILLEGAL_FC` (46_system R376). -/
def execIllegalFC (s : State) : Result := .next (raiseUndefined 0xFC#8 s)

/-- `ILLEGAL_FD` (46_system R376). -/
def execIllegalFD (s : State) : Result := .next (raiseUndefined 0xFD#8 s)

end Sys2Proof.Machine
end

