-- ==== Sys2Proof/Machine/Cycle.lean ====
section
/-! DEFINITION. One `step()` (60_exceptions R400): leaving a halt or a stop, the interrupt check, one instruction. Then
the placing of an instruction's bytes where the next step fetches them. -/

namespace Sys2Proof.Machine

open Sys2Proof

/-! ## The parts of a step -/

/-- Parts (2) and (3) of 60_exceptions R400: a stopped machine runs again on a joypad request (R436), a halted one on any
enabled request (R430, R431). -/
def wake (s : State) : State :=
  match s.mode with
  | .running => s
  | .halted => if pendingSet s ≠ 0#5 then { s with mode := .running } else s
  | .stopped => if s.irq.getLsbD 4 then { s with mode := .running } else s
  | .faulted => s

/-- The eleven undefined opcode bytes (30_encoding R182, 46_system R376). -/
def isUndefined (op : Byte) : Bool :=
  decide (op ∈ ([0xD3#8, 0xDB#8, 0xDD#8, 0xE3#8, 0xE4#8, 0xEB#8, 0xEC#8, 0xED#8, 0xF4#8, 0xFC#8, 0xFD#8] : List Byte))

/-- The instruction whose bytes stand where the step fetches them (30_encoding R186; 60_exceptions R432). -/
def fetchInstr (s : State) : Instr := decodeOp (fetchOpcode s) (fetchOperands s).1 (fetchOperands s).2

/-- What follows an instruction's own effect (60_exceptions R400): the promotion of a delayed enable sampled before the
instruction, then `finish`. -/
def afterInstruction (promote : Bool) (r : Result) : Result :=
  match r with
  | .next t => .next (finish (promoteIme promote t))
  | .fault e => .fault e
  | .refused e => .refused e

/-- Part (5) of 60_exceptions R400. An undefined opcode runs on the state before the fetch and ends the step: no promotion,
no `finish` (R405); every other instruction runs on the state after the fetch (log entry 12). -/
def runInstruction (s : State) : Result :=
  if isUndefined (fetchOpcode s) then exec (fetchInstr s) s
  else afterInstruction s.imePending (exec (fetchInstr s) (afterFetch (opLength (fetchOpcode s)) s))

/-- An idle step of a halted or stopped machine (60_exceptions R430, R436). -/
def idle (s : State) : State := finish (withCost idleCycles s)

/-- Parts (4) and (5) of 60_exceptions R400 on a machine that is running. -/
def serviceOrRun (s : State) : Result :=
  if s.ime then
    match highestPending (pendingSet s) with
    | some k => .next (finish (service k s))
    | none => runInstruction s
  else runInstruction s

/-- `step()` (60_exceptions R400). A faulted machine answers its fault and changes nothing (R406). -/
def stepMachine (s : State) : Result :=
  if s.mode = .faulted then .fault (.unimplementedOpcode s.fault)
  else if (wake s).mode = .running then serviceOrRun (wake s)
  else .next (idle s)

/-! ## Placing an instruction (log entry 3) -/

/-- The address is plain storage: a byte placed there is the byte a fetch reads. -/
def isPlaceable (s : State) (addr : Word) : Bool :=
  match regionOf addr with
  | .romFixed => true
  | .romBanked => true
  | .vram => true
  | .xram => xramOn s
  | .wram => true
  | .echo => true
  | .oam => true
  | .unused => false
  | .div => false
  | .tima => false
  | .tma => false
  | .tac => false
  | .irq => false
  | .io => true
  | .hram => true
  | .ie => false

/-- Put a byte where a fetch at `addr` reads it: into the ROM image for a ROM address (the cartridge is loaded from
outside), into the RAM for a RAM address. -/
def placeByte (addr : Word) (v : Byte) (s : State) : State :=
  match regionOf addr with
  | .romFixed => { s with cart := { s.cart with rom := s.cart.rom.write addr.toNat v } }
  | .romBanked => { s with cart := { s.cart with rom := s.cart.rom.write (romOffset s addr) v } }
  | _ => if isPlaceable s addr then memWrite addr v s else s

/-- The three addresses from `pc` on are plain storage. -/
def fetchesPlain (s : State) : Bool :=
  isPlaceable s s.pc && isPlaceable s (s.pc + 1#16) && isPlaceable s (s.pc + 2#16)

/-- Put three bytes at `pc`. -/
def placeThree (b0 b1 b2 : Byte) (s : State) : State :=
  placeByte (s.pc + 2#16) b2 (placeByte (s.pc + 1#16) b1 (placeByte s.pc b0 s))

/-- A state whose next step fetches at `pc`: running, no halt quirk armed, no interrupt to service, and `pc` at plain storage
(at the first byte of `WRAM` where it was not). -/
def readyToFetch (s : State) : State :=
  { s with
    mode := .running, fault := none, haltBug := false
    ime := s.ime && decide (pendingSet s = 0#5)
    pc := if fetchesPlain s then s.pc else 0xC000#16 }

/-- Byte `k` of a table row's bytes, zero past their end. -/
def rowByte (nbits w k : Nat) : Byte := (tableBytes nbits w).getD k 0#8

/-- The instruction of a table row placed where the next step fetches it. -/
def placeRow (s : State) (nbits w : Nat) : State :=
  placeThree (rowByte nbits w 0) (rowByte nbits w 1) (rowByte nbits w 2) (readyToFetch s)

end Sys2Proof.Machine
end

