-- ==== Sys2Proof/Machine/Step.lean ====
section
/-! DEFINITION. The step of the machine, and an instruction placed where it fetches. Both only call Machine/Cycle.lean. -/

namespace Sys2Proof.Machine

open Sys2Proof

/-- One `step()` (60_exceptions R400). -/
def step (s : State) : Host.Outcome State Fault Refusal := stepMachine s

/-- `s` with the instruction of one row of spec/opcode_table.json where `step` fetches its next instruction (log
entry 3). -/
def State.withFetchWord (s : State) (nbits w : Nat) : State := placeRow s nbits w

end Sys2Proof.Machine
end

