-- ==== Sys2Proof/WellFormed.lean ====
section
/-! DEFINITION. Well-formed instructions and well-formed configurations. Every operand type is exactly as wide as its
encoding, so the one ill-formed instruction is the bare prefix; a configuration meets the construction precondition of
00_scope R12 and the constraints of R10. -/

namespace Sys2Proof

/-- An instruction that stands by itself: every one but the prefix byte alone, which "is not an instruction by itself"
(30_encoding R185). -/
def Instr.wellFormed (i : Instr) : Bool := decide (i ≠ .prefixCb)

/-- Bytes of one ROM bank (00_scope R11). -/
def romBankSize : Nat := 0x4000

/-- Bytes of one external RAM bank (00_scope R11). -/
def ramBankSize : Nat := 0x2000

/-- The constraints of 00_scope R10 and the precondition of R12: at least one ROM bank, exactly two under `NoMapper`, and an
image of `ROM_BANKS * 0x4000` bytes. -/
def Cartridge.wellFormed (k : Cartridge) : Bool :=
  decide (1 ≤ k.romBanks) && (decide (k.mapper = .banked) || decide (k.romBanks = 2)) &&
    Memory.wf (k.romBanks * romBankSize) k.rom

end Sys2Proof
end

