-- ==== Sys2Proof/Machine/Env.lean ====
section
/-! DEFINITION. The host interface and the environment (70_reset_and_hazards section 3): everything that may happen
between two steps, as transitions of their own (log entry 8), and `run_until` over repeated steps. -/

namespace Sys2Proof.Machine

open Sys2Proof

/-! ## Persistence (70_reset R483) -/

/-- The byte at each index from `i` on, `n` of them. -/
def bytesFrom (m : Memory) (i n : Nat) : List Byte :=
  match n with
  | 0 => []
  | n + 1 => m.read i :: bytesFrom m (i + 1) n

/-- The length of `XRAM` in bytes (10_state R61). -/
def xramSize (k : Cartridge) : Nat := k.ramBanks * ramBankSize

/-- `external_ram_bytes()`: the whole of `XRAM` in physical order, whatever the latches hold (70_reset R483). -/
def externalRamBytes (s : State) : List Byte := bytesFrom s.xram 0 (xramSize s.cart)

/-- `restore(bytes)`: `XRAM <- bytes` and nothing else; a list of another length breaks the precondition and is refused
(70_reset R483; log entry 9). -/
def restore (bytes : List Byte) (s : State) : Result :=
  if bytes.length = xramSize s.cart then .next { s with xram := Memory.ofBytes 0 bytes } else .refused .restoreLength

/-! ## The environment (70_reset R480) -/

/-- The index has a pass-through cell in `IO` (10_state R58). -/
def isPassThrough (i : BitVec 7) : Bool :=
  decide (i ∉ ([0x04#7, 0x05#7, 0x06#7, 0x07#7, 0x0F#7] : List (BitVec 7)))

/-- What the environment may do between two steps, beside reading (70_reset R480). -/
inductive EnvAction where
  /-- `request(k)` -/
  | request (k : Source)
  /-- write a byte to an `IO` cell -/
  | writeIo (i : BitVec 7) (v : Byte)
  /-- write a byte to a cell of `VRAM` -/
  | writeVram (i : BitVec 13) (v : Byte)
  /-- write a byte to a cell of `OAM` -/
  | writeOam (i : Fin 160) (v : Byte)
  /-- `restore(bytes)` -/
  | restore (bytes : List Byte)
  deriving DecidableEq, Repr

/-- The effect of an environment action (70_reset R480). -/
def envAct (e : EnvAction) (s : State) : Result :=
  match e with
  | .request k => .next (request k s)
  | .writeIo i v => if isPassThrough i then .next { s with io := s.io.write i.toNat v } else .refused .notPassThrough
  | .writeVram i v => .next { s with vram := s.vram.write i.toNat v }
  | .writeOam i v => .next { s with oam := s.oam.write i.val v }
  | .restore bytes => restore bytes s

/-! ## Construction and reset (70_reset R470, R484) -/

/-- The cartridge an image and the header fields give, if they are consistent (00_scope R10, R12): at least one ROM bank,
exactly two under `NoMapper`, and an image of `ROM_BANKS * 0x4000` bytes. -/
def loadCartridge (mapper : Mapper) (romBanks ramBanks : Nat) (battery : Bool) (image : List Byte) : Option Cartridge :=
  if 1 ≤ romBanks ∧ (mapper = .banked ∨ romBanks = 2) ∧ image.length = romBanks * romBankSize then
    some { mapper := mapper, romBanks := romBanks, ramBanks := ramBanks, battery := battery, rom := Memory.ofBytes 0 image }
  else none

/-- `construct`: the machine right after reset with that cartridge, or the load failure (70_reset R484); the RAM contents
are launch parameters (10_state R68). -/
def construct (mapper : Mapper) (romBanks ramBanks : Nat) (battery : Bool) (image : List Byte)
    (wram hram vram oam xram : Memory) : Result :=
  match loadCartridge mapper romBanks ramBanks battery image with
  | some cart => .next (State.launch cart wram hram vram oam xram)
  | none => .refused .cartridgeLoadMismatch

/-- The host's reset (70_reset R470): construction anew with the same configuration; nothing else survives. -/
def hostReset (wram hram vram oam xram : Memory) (s : State) : State := State.launch s.cart wram hram vram oam xram

/-! ## `run_until` (70_reset R482) -/

/-- How a call of `run_until` ends. -/
inductive RunEnd where
  /-- the budget is used up: the cycles actually run -/
  | ran (cycles : Nat)
  /-- a step returned the failure -/
  | failed (f : Fault)
  /-- a step was refused; none is -/
  | refused (r : Refusal)
  deriving DecidableEq, Repr

/-- What `step()` returns for the outcome of a step (60_exceptions R400; log entry 4): the failure, where the step met an
undefined opcode, although its next state is held. -/
def stepFailure (s : State) : Option Fault :=
  if s.mode = .faulted then some (.unimplementedOpcode s.fault) else none

/-- The loop of `run_until`, from a start time; `fuel` bounds the passes (log entry 13). -/
def runUntilLoop (fuel start budget : Nat) (s : State) : State × RunEnd :=
  match fuel with
  | 0 => (s, .ran (s.clock - start))
  | fuel + 1 =>
    if s.clock - start < budget then
      match step s with
      | .next t =>
        match stepFailure t with
        | some e => (t, .failed e)
        | none => runUntilLoop fuel start budget t
      | .fault e => (s, .failed e)
      | .refused e => (s, .refused e)
    else (s, .ran (s.clock - start))

/-- `run_until(budget)` (70_reset R482). Every completed step takes at least 4 cycles, so `budget` passes are enough. -/
def runUntil (budget : Nat) (s : State) : State × RunEnd := runUntilLoop budget s.clock budget s

end Sys2Proof.Machine
end

