-- ==== Sys2Proof/Safety.lean ====
section
/-! DEFINITION. What every state the machine passes through satisfies (`State.Inv`), and what counts as a safe run. -/

namespace Sys2Proof.Machine

open Sys2Proof

/-- The number of cells of `WRAM` (10_state R56). -/
def wramSize : Nat := 8192

/-- The number of cells of `HRAM` (10_state R57). -/
def hramSize : Nat := 127

/-- The number of indices of `IO` (10_state R58). -/
def ioSize : Nat := 128

/-- The number of cells of `VRAM` (10_state R59). -/
def vramSize : Nat := 8192

/-- The number of cells of `OAM` (10_state R60). -/
def oamSize : Nat := 160

/-- `F[3:0] = 0` (10_state R37). -/
abbrev State.FlagsInv (s : State) : Prop := s.f &&& 0x0F#8 = 0#8

/-- The invariants of the cartridge translator (20_memory R125, R132): the bank indices are in range, and under `NoMapper`
all three latches hold their constants. -/
abbrev State.BankInv (s : State) : Prop :=
  s.romBank < s.cart.romBanks ∧ s.ramBank < max s.cart.ramBanks 1 ∧
  (s.cart.mapper = .noMapper → s.romBank = 1 ∧ s.ramBank = 0 ∧ s.ramEnable = decide (0 < s.cart.ramBanks))

/-- Every memory keeps its canonical form and its size (10_state R56 to R61), and `IO` has no cell at the five indices of
the timer and interrupt registers (R58). -/
abbrev State.MemInv (s : State) : Prop :=
  s.wram.wf wramSize = true ∧ s.hram.wf hramSize = true ∧ s.io.wf ioSize = true ∧ s.vram.wf vramSize = true ∧
  s.oam.wf oamSize = true ∧ s.xram.wf (s.cart.ramBanks * ramBankSize) = true ∧
  s.io.read 0x04 = 0x00#8 ∧ s.io.read 0x05 = 0x00#8 ∧ s.io.read 0x06 = 0x00#8 ∧ s.io.read 0x07 = 0x00#8 ∧
  s.io.read 0x0F = 0x00#8

/-- The fault record is there exactly when the mode is FAULTED (10_state R46), and a machine that is halted or stopped has no
halt quirk armed (46_system R371, R372). -/
abbrev State.ControlInv (s : State) : Prop :=
  (s.mode = .faulted ↔ s.fault.isSome = true) ∧ (s.haltBug = true → s.mode = .running ∨ s.mode = .faulted)

/-- The prescaler is below the longest period (10_state R51). -/
abbrev State.TimerInv (s : State) : Prop := s.tsub < 1024

/-- The configuration meets the construction precondition (00_scope R12). -/
abbrev State.CartInv (s : State) : Prop := s.cart.wellFormed = true

/-- The invariant of the machine. -/
abbrev State.Inv (s : State) : Prop :=
  s.FlagsInv ∧ s.BankInv ∧ s.MemInv ∧ s.ControlInv ∧ s.TimerInv ∧ s.CartInv

/-- A safe run of `n` steps: no step ends in a fault or a refusal, and the undefined-opcode fault is not taken. -/
def safeRun (n : Nat) (s : State) : Prop :=
  match n with
  | 0 => s.mode ≠ .faulted
  | n + 1 => s.mode ≠ .faulted ∧ ∃ t, step s = .next t ∧ safeRun n t

end Sys2Proof.Machine
end

