-- ==== Sys2Proof/Certificates/Slice0/Obligations.lean ====
section
/-! DEFINITION. The statements for the provers. First the few words the statements share, each written from the spec
rather than from the model's own operations; then one definition per statement. An instruction is named by its generic
form (`Instr.form`), so that a statement covers every constructor of that form.

Throughout, a defined instruction runs on the state after its bytes were fetched, an undefined opcode on the state before
it, and what `exec` answers is before the clock and the timer advance (the model's choice, log entry 12); the cost it
records stands in the model's own field `cycles` (log entry 5). -/

namespace Sys2Proof.Claims

open Sys2Proof Sys2Proof.Machine

/-! ## Fields of an opcode byte (30_encoding R162) and the code tables (R166 to R171) -/

/-- `x = op[7:6]`. -/
def fieldX (op : Byte) : Nat := op.toNat / 64

/-- `y = op[5:3]`. -/
def fieldY (op : Byte) : Nat := op.toNat / 8 % 8

/-- `z = op[2:0]`. -/
def fieldZ (op : Byte) : Nat := op.toNat % 8

/-- `p = op[5:4]`. -/
def fieldP (op : Byte) : Nat := op.toNat / 16 % 4

/-- `q = op[3]`. -/
def fieldQ (op : Byte) : Nat := op.toNat / 8 % 2

/-- The register of a code other than 6 (R166). -/
def reg8At (k : Nat) : Reg8 :=
  match k with
  | 0 => .b
  | 1 => .c
  | 2 => .d
  | 3 => .e
  | 4 => .h
  | 5 => .l
  | _ => .a

/-- The 8-bit operand of a code (R166). -/
def opndAt (k : Nat) : Opnd := if k = 6 then .memHl else .reg (reg8At k)

/-- The second operand of an accumulator operation, by code (R166, R260). -/
def srcAt (k : Nat) : Src := if k = 6 then .memHl else .reg (reg8At k)

/-- The pair of a code (R167). -/
def pairAt (k : Nat) : Pair :=
  match k with
  | 0 => .bc
  | 1 => .de
  | 2 => .hl
  | _ => .sp

/-- The stack pair of a code (R168). -/
def stackPairAt (k : Nat) : StackPair :=
  match k with
  | 0 => .bc
  | 1 => .de
  | 2 => .hl
  | _ => .af

/-- The condition of a code (R169). -/
def condAt (k : Nat) : Cond :=
  match k with
  | 0 => .nz
  | 1 => .z
  | 2 => .nc
  | _ => .c

/-- The arithmetic or logic operation of a code (R170). -/
def aluAt (k : Nat) : AluOp :=
  match k with
  | 0 => .add
  | 1 => .adc
  | 2 => .sub
  | 3 => .sbc
  | 4 => .and
  | 5 => .xor
  | 6 => .or
  | _ => .cp

/-- The rotate or shift of a code (R171). -/
def rotAt (k : Nat) : RotOp :=
  match k with
  | 0 => .rlc
  | 1 => .rrc
  | 2 => .rl
  | 3 => .rr
  | 4 => .sla
  | 5 => .sra
  | 6 => .swap
  | _ => .srl

/-- Block `x = 0` of the base page (R178): `op` with byte 1 `n` and the 16-bit immediate `nn`. -/
def blockZero (op n : Byte) (nn : Word) : Form :=
  match fieldZ op with
  | 0 =>
    match fieldY op with
    | 0 => .nop
    | 1 => .ldNnSp nn
    | 2 => .stop n
    | 3 => .jr n
    | k => .jrCond (condAt (k - 4)) n
  | 1 => if fieldQ op = 0 then .ldPairImm (pairAt (fieldP op)) nn else .addHl (pairAt (fieldP op))
  | 2 =>
    match fieldQ op, fieldP op with
    | 0, 0 => .ldBcA
    | 0, 1 => .ldDeA
    | 0, 2 => .ldIncA
    | 0, _ => .ldDecA
    | _, 0 => .ldABc
    | _, 1 => .ldADe
    | _, 2 => .ldAInc
    | _, _ => .ldADec
  | 3 => if fieldQ op = 0 then .incPair (pairAt (fieldP op)) else .decPair (pairAt (fieldP op))
  | 4 => .inc (opndAt (fieldY op))
  | 5 => .dec (opndAt (fieldY op))
  | 6 => if fieldY op = 6 then .ldMemImm n else .ldRegImm (reg8At (fieldY op)) n
  | _ =>
    match fieldY op with
    | 0 => .rlca
    | 1 => .rrca
    | 2 => .rla
    | 3 => .rra
    | 4 => .daa
    | 5 => .cpl
    | 6 => .scf
    | _ => .ccf

/-- Block `x = 1` of the base page (R178): the loads, and `HALT` in place of `LD (HL),(HL)`. -/
def blockOne (op : Byte) : Form :=
  if fieldY op = 6 then (if fieldZ op = 6 then .halt else .ldMemReg (reg8At (fieldZ op)))
  else if fieldZ op = 6 then .ldRegMem (reg8At (fieldY op))
  else .ldRegReg (reg8At (fieldY op)) (reg8At (fieldZ op))

/-- Block `x = 3` of the base page (R178). -/
def blockThree (op n : Byte) (nn : Word) : Form :=
  match fieldZ op with
  | 0 =>
    match fieldY op with
    | 4 => .ldhNA n
    | 5 => .addSp n
    | 6 => .ldhAN n
    | 7 => .ldHlSp n
    | k => .retCond (condAt k)
  | 1 =>
    if fieldQ op = 0 then .pop (stackPairAt (fieldP op))
    else
      match fieldP op with
      | 0 => .ret
      | 1 => .reti
      | 2 => .jpHl
      | _ => .ldSpHl
  | 2 =>
    match fieldY op with
    | 4 => .ldhCA
    | 5 => .ldNnA nn
    | 6 => .ldhAC
    | 7 => .ldANn nn
    | k => .jpCond (condAt k) nn
  | 3 =>
    match fieldY op with
    | 0 => .jp nn
    | 1 => .prefixCb
    | 6 => .di
    | 7 => .ei
    | _ => .illegal op
  | 4 => if fieldY op < 4 then .callCond (condAt (fieldY op)) nn else .illegal op
  | 5 =>
    if fieldQ op = 0 then .push (stackPairAt (fieldP op)) else if fieldP op = 0 then .call nn else .illegal op
  | 6 => .alu (aluAt (fieldY op)) (.imm n)
  | _ => .rst (BitVec.ofNat 3 (fieldY op))

/-- The base page by fields (R178). -/
def baseForm (op n : Byte) (nn : Word) : Form :=
  match fieldX op with
  | 0 => blockZero op n nn
  | 1 => blockOne op
  | 2 => .alu (aluAt (fieldY op)) (srcAt (fieldZ op))
  | _ => blockThree op n nn

/-- The CB page by fields (R180). -/
def cbForm (op2 : Byte) : Form :=
  match fieldX op2 with
  | 0 => .rot (rotAt (fieldY op2)) (opndAt (fieldZ op2))
  | 1 => .bit (BitVec.ofNat 3 (fieldY op2)) (opndAt (fieldZ op2))
  | 2 => .res (BitVec.ofNat 3 (fieldY op2)) (opndAt (fieldZ op2))
  | _ => .set (BitVec.ofNat 3 (fieldY op2)) (opndAt (fieldZ op2))

/-! ## Flags, conditions, rotates in plain arithmetic -/

/-- `F = fZ ++ fN ++ fH ++ fC ++ 0b0000` as a number (10_state R36, R37). -/
def flagsAre (f : Byte) (z n h c : Bool) : Prop :=
  f.toNat = 128 * z.toNat + 64 * n.toNat + 32 * h.toNat + 16 * c.toNat

/-- `fZ`. -/
def flagZ (f : Byte) : Bool := decide (f.toNat / 128 % 2 = 1)

/-- `fN`. -/
def flagN (f : Byte) : Bool := decide (f.toNat / 64 % 2 = 1)

/-- `fH`. -/
def flagH (f : Byte) : Bool := decide (f.toNat / 32 % 2 = 1)

/-- `fC`. -/
def flagC (f : Byte) : Bool := decide (f.toNat / 16 % 2 = 1)

/-- `cond(cc)` on a flag register (45_control R340). -/
def condTrue (k : Cond) (f : Byte) : Bool :=
  match k with
  | .nz => !flagZ f
  | .z => flagZ f
  | .nc => !flagC f
  | .c => flagC f

/-- A rotate or shift of the number `v` with incoming carry `cin`: the result and the bit shifted out
(44_rotate_shift_bit R310 to R322). -/
def rotNat (op : RotOp) (v cin : Nat) : Nat × Nat :=
  match op with
  | .rlc => ((2 * v + v / 128) % 256, v / 128)
  | .rrc => (v / 2 + 128 * (v % 2), v % 2)
  | .rl => ((2 * v + cin) % 256, v / 128)
  | .rr => (v / 2 + 128 * cin, v % 2)
  | .sla => (2 * v % 256, v / 128)
  | .sra => (v / 2 + 128 * (v / 128), v % 2)
  | .swap => (v / 16 + 16 * (v % 16), 0)
  | .srl => (v / 2, v % 2)

/-- The cost of a form that is cheaper with a register operand. -/
def byOpnd (o : Opnd) (regCost memCost : Nat) : Nat := if o = .memHl then memCost else regCost

/-- The cost of an accumulator operation (42_alu8 R260). -/
def accCost (src : Src) : Nat :=
  match src with
  | .reg _ => 4
  | .memHl => 8
  | .imm _ => 8

/-! ## Addresses -/

/-- The address holds a plain byte cell, one that a read gives back as it was written (20_memory R147). -/
def plainCell (s : State) (addr : Word) : Prop :=
  (0x8000 ≤ addr.toNat ∧ addr.toNat < 0xA000) ∨
  (0xA000 ≤ addr.toNat ∧ addr.toNat < 0xC000 ∧ s.ramEnable = true ∧ 0 < s.cart.ramBanks) ∨
  (0xC000 ≤ addr.toNat ∧ addr.toNat < 0xFEA0) ∨
  (0xFF00 ≤ addr.toNat ∧ addr.toNat ≠ 0xFF04 ∧ addr.toNat ≠ 0xFF07 ∧ addr.toNat ≠ 0xFF0F)

/-- The address names the same cell as every other address with the same answer: the echo folded onto `WRAM`
(20_memory R99). -/
def cellOf (addr : Word) : Nat :=
  if 0xE000 ≤ addr.toNat ∧ addr.toNat < 0xFE00 then addr.toNat - 0x2000 else addr.toNat

/-- A write to `addr` may change what a read of `x` gives (20_memory R136, R147): the same cell; the banked windows for a
write to the cartridge's latches; the divider and the counter for a write to 0xFF04. -/
def mayTouch (addr x : Word) : Prop :=
  cellOf x = cellOf addr ∨
  (addr.toNat < 0x8000 ∧ ((0x4000 ≤ x.toNat ∧ x.toNat < 0x8000) ∨ (0xA000 ≤ x.toNat ∧ x.toNat < 0xC000))) ∨
  (addr.toNat = 0xFF04 ∧ x.toNat = 0xFF05)

/-- The addresses a form of the CB page stores to: `HL`, for a memory operand that is written back (R314, R323). -/
def cbStores (op2 : Byte) (s : State) : List Word :=
  if fieldZ op2 = 6 ∧ fieldX op2 ≠ 1 then [getHl s] else []

/-- `HL`, for a memory operand that is written back. -/
def atHl (o : Opnd) (s : State) : List Word := if o = .memHl then [getHl s] else []

/-- The two bytes a push stores to, in order (00_scope R19). -/
def stackSlots (s : State) : List Word := [s.sp - 1#16, s.sp - 2#16]

/-- The addresses an instruction's own stores go to, in order, from the state it runs on. -/
def storesTo (f : Form) (s : State) : List Word :=
  match f with
  | .ldRegReg _ _ => []
  | .ldRegImm _ _ => []
  | .ldRegMem _ => []
  | .ldMemReg _ => [getHl s]
  | .ldMemImm _ => [getHl s]
  | .ldABc => []
  | .ldADe => []
  | .ldBcA => [getBc s]
  | .ldDeA => [getDe s]
  | .ldANn _ => []
  | .ldNnA nn => [nn]
  | .ldhAC => []
  | .ldhCA => [highPage s.c]
  | .ldhAN _ => []
  | .ldhNA n => [highPage n]
  | .ldADec => []
  | .ldDecA => [getHl s]
  | .ldAInc => []
  | .ldIncA => [getHl s]
  | .ldPairImm _ _ => []
  | .ldNnSp nn => [nn, nn + 1#16]
  | .ldSpHl => []
  | .ldHlSp _ => []
  | .push _ => stackSlots s
  | .pop _ => []
  | .alu _ _ => []
  | .inc o => atHl o s
  | .dec o => atHl o s
  | .daa => []
  | .cpl => []
  | .scf => []
  | .ccf => []
  | .addHl _ => []
  | .incPair _ => []
  | .decPair _ => []
  | .addSp _ => []
  | .rlca => []
  | .rrca => []
  | .rla => []
  | .rra => []
  | .rot _ o => atHl o s
  | .bit _ _ => []
  | .res _ o => atHl o s
  | .set _ o => atHl o s
  | .jp _ => []
  | .jpCond _ _ => []
  | .jpHl => []
  | .jr _ => []
  | .jrCond _ _ => []
  | .call _ => stackSlots s
  | .callCond k _ => if condTrue k s.f then stackSlots s else []
  | .ret => []
  | .retCond _ => []
  | .reti => []
  | .rst _ => stackSlots s
  | .nop => []
  | .halt => []
  | .stop _ => []
  | .di => []
  | .ei => []
  | .prefixCb => cbStores (memRead s s.pc) s
  | .illegal _ => []

/-! ## The step -/

/-- Nothing is serviced and the machine is running: the step runs an instruction (60_exceptions R400 part 5). -/
def runsInstruction (s : State) : Prop := s.mode = .running ∧ ¬(s.ime = true ∧ s.ie.toNat % 32 &&& s.irq.toNat ≠ 0)

/-- The bytes a step fetches: the opcode at `PC`, the next two from `PC + 1`, or from `PC` itself when the halt quirk is
armed (60_exceptions R432). -/
def fetchedBytes (s : State) : List Byte :=
  if s.haltBug then [memRead s s.pc, memRead s s.pc, memRead s (s.pc + 1#16)]
  else [memRead s s.pc, memRead s (s.pc + 1#16), memRead s (s.pc + 2#16)]

/-- The state an instruction of `len` bytes runs on: `PC` past it, one less when the halt quirk was armed, and the quirk
consumed (60_exceptions R400, R432). -/
def fetched (s : State) (len : Nat) : State :=
  { s with pc := s.pc + BitVec.ofNat 16 (if s.haltBug then len - 1 else len), haltBug := false }

/-- The eleven undefined opcode bytes (30_encoding R182). -/
def undefinedBytes : List Byte :=
  [0xD3#8, 0xDB#8, 0xDD#8, 0xE3#8, 0xE4#8, 0xEB#8, 0xEC#8, 0xED#8, 0xF4#8, 0xFC#8, 0xFD#8]

/-- The highest-priority source that is requested and enabled is `k` (60_exceptions R412, R414). -/
def firstPending (s : State) (k : Source) : Prop :=
  (s.ie.getLsbD k.bitIndex = true ∧ s.irq.getLsbD k.bitIndex = true) ∧
  ∀ j, j < k.bitIndex → ¬(s.ie.getLsbD j = true ∧ s.irq.getLsbD j = true)

/-- Bit `k` of `IF` cleared (60_exceptions R415). -/
def acknowledged (irq : BitVec 5) (k : Source) : BitVec 5 := BitVec.ofNat 5 (irq.toNat - (irq.toNat / 2 ^ k.bitIndex % 2) * 2 ^ k.bitIndex)

/-- One increment of the counter: the new `TIMA` and the requests raised so far (60_exceptions R446). -/
def counterUp (tma : Byte) (x : Byte × Nat) : Byte × Nat := if x.1 = 0xFF#8 then (tma, x.2 + 1) else (x.1 + 1#8, x.2)

/-- The period in cycles (60_exceptions R442). -/
def periodOf (tac : BitVec 3) : Nat := [1024, 16, 64, 256].getD (tac.toNat % 4) 0

end Sys2Proof.Claims

open Sys2Proof Sys2Proof.Machine Sys2Proof.Claims

/-- One word of each family (LD B,C; LD A,n; LD SP,nn; PUSH AF; ADC A,B; XOR A,n; ADD HL,SP; RLCA; SWAP A; BIT 7,H; JR
NZ,e; CALL nn; RETI; HALT; STOP; EI; an undefined byte; the prefix byte alone) decodes to its instruction and leaves the
bytes that follow. That the prefix byte 0xCB alone decodes, to the table's row PREFIX CB, is the model's choice, log
entry 6: R185 says that the prefix is not an instruction by itself. (Derived: 30_encoding sections 4 to 6, R179, R181,
R185.) -/
def Obligations.SampleWordsDecode : Prop :=
  decode [0x41#8, 0xAA#8] = .ok (.ldBC, [0xAA#8]) ∧ decode [0x3E#8, 0x42#8] = .ok (.ldAN 0x42#8, []) ∧
  decode [0x31#8, 0x34#8, 0x12#8] = .ok (.ldSpNn 0x1234#16, []) ∧ decode [0xF5#8] = .ok (.pushAf, []) ∧
  decode [0x88#8] = .ok (.adcAB, []) ∧ decode [0xEE#8, 0x0F#8] = .ok (.xorN 0x0F#8, []) ∧
  decode [0x39#8] = .ok (.addHlSp, []) ∧ decode [0x07#8] = .ok (.rlca, []) ∧
  decode [0xCB#8, 0x37#8] = .ok (.swapA, []) ∧ decode [0xCB#8, 0x7C#8] = .ok (.bit7H, []) ∧
  decode [0x20#8, 0xFD#8] = .ok (.jrNzE 0xFD#8, []) ∧ decode [0xCD#8, 0x23#8, 0xD1#8] = .ok (.callNn 0xD123#16, []) ∧
  decode [0xD9#8] = .ok (.reti, []) ∧ decode [0x76#8] = .ok (.halt, []) ∧
  decode [0x10#8, 0xD3#8] = .ok (.stop 0xD3#8, []) ∧ decode [0xFB#8] = .ok (.ei, []) ∧
  decode [0xDD#8] = .ok (.illegalDD, []) ∧ decode [0xCB#8] = .ok (.prefixCb, [])

/-- For every well-formed instruction (all but the prefix byte alone), with every operand at every value, and every
bytes after it, decode of encode gives the instruction and exactly those bytes: no bit of an encoding is dropped.
(Derived: 30_encoding sections 1 to 6, R160, R186.) -/
def Obligations.DecodeInvertsEncode : Prop :=
  ∀ (i : Instr) (rest : List Byte), i.wellFormed = true → decode (encode i ++ rest) = .ok (i, rest)

/-- If a byte list decodes to an instruction and a rest, then the encoding of the instruction followed by the rest is
the byte list. Each word has one meaning. (The prefix byte alone is covered too; that it decodes is the model's choice,
log entry 6.) (Derived: 30_encoding sections 1 to 6, R160, R183.) -/
def Obligations.EncodeInvertsDecode : Prop :=
  ∀ (bytes rest : List Byte) (i : Instr), decode bytes = .ok (i, rest) → encode i ++ rest = bytes

/-- A byte list is rejected exactly when it holds fewer bytes than the length its first byte determines (an empty list
is too short for any), except for the prefix byte alone, which is read as the table's row PREFIX CB (the model's choice,
log entry 6). Every complete instruction decodes: no encoding is reserved. (Derived: 30_encoding section 1, R160, R183.)
-/
def Obligations.DecodeRejectsOnlyTruncation : Prop :=
  ∀ bytes : List Byte,
    (∃ e, decode bytes = .error e) ↔ (bytes.length < opLength (bytes.headD 0x00#8) ∧ bytes ≠ [0xCB#8])

/-- For every opcode byte but the prefix, and every operand bytes, the instruction the decoder (written from the matrix
R179) reads has the form that the bit fields x, y, z, p, q give it by R178. (Derived: 30_encoding section 4, R162, R178,
R184.) -/
def Obligations.BasePageByFields : Prop :=
  ∀ b0 b1 b2 : Byte, b0 ≠ 0xCB#8 → (decodeOp b0 b1 b2).form = baseForm b0 b1 (b2 ++ b1)

/-- For every second byte op2, 0xCB, op2 is a defined two-byte instruction: it has the form that the fields x, y, z of
op2 give it, and it completes at cost 8 with a register operand, 12 for BIT on (HL), and 16 for the other (HL) forms. It
covers all 256 instructions of the CB page: RLC, RRC, RL, RR, SLA, SRA, SWAP, SRL, BIT, RES, SET on every operand.
(Stated: R180.) -/
def Obligations.CbPageByFields : Prop :=
  ∀ (op2 : Byte) (rest : List Byte) (s : State),
    decode (0xCB#8 :: op2 :: rest) = .ok (cbPage op2, rest) ∧ (cbPage op2).form = cbForm op2 ∧
    ∃ t, exec (cbPage op2) s = .next t ∧
      t.cycles = if fieldZ op2 = 6 then (if fieldX op2 = 1 then 12 else 16) else 8

/-- An instruction read from bytes b0, b1, b2 is an undefined-opcode instruction exactly when b0 is one of the eleven
bytes, and then it is the one of that byte; taking it (ILLEGAL_D3, DB, DD, E3, E4, EB, EC, ED, F4, FC, FD) is the
UnimplementedOpcode fault: exec, on the state before the fetch, answers the next state with mode FAULTED and the record,
which is the model's choice, log entries 4 and 12 (R400 has the step return the failure). As an operand byte or as op2
of the CB page the same values are ordinary data: every other first byte reads a defined instruction whatever b1 and b2
are. (Derived: 30_encoding section 6, R182, R376, R400, R405.) -/
def Obligations.UndefinedBytesAreEleven : Prop :=
  undefinedBytes.length = 11 ∧
  (∀ b0 b1 b2 : Byte, (∃ op, (decodeOp b0 b1 b2).form = .illegal op) ↔ b0 ∈ undefinedBytes) ∧
  (∀ b0 b1 b2 : Byte, b0 ∈ undefinedBytes → ∀ s : State, exec (decodeOp b0 b1 b2) s =
    .next { s with mode := .faulted, fault := some { opcode := b0, pc := s.pc } })

/-- All 49 instructions LD r,r' (r, r' of B C D E H L A) encode as 01 ddd sss, all 7 instructions LD r,n as 00 ddd 110,
n, and they complete at cost 4 and 8: the destination register takes the source's value or n, and every other register,
every flag, every special register and every byte of memory is unchanged; a same-register load changes nothing but the
cost. (Stated: R200, R201.) -/
def Obligations.LoadRegister : Prop :=
  (∀ (i : Instr) (dst src : Reg8) (s : State), i.form = .ldRegReg dst src →
    encode i = [1#2 ++ dst.code ++ src.code] ∧ exec i s = .next { setReg dst (getReg src s) s with cycles := 4 } ∧
    (dst = src → exec i s = .next { s with cycles := 4 })) ∧
  (∀ (i : Instr) (dst : Reg8) (n : Byte) (s : State), i.form = .ldRegImm dst n →
    encode i = [0#2 ++ dst.code ++ 6#3, n] ∧ exec i s = .next { setReg dst n s with cycles := 8 })

/-- All 7 instructions LD r,(HL) encode as 01 ddd 110, all 7 LD (HL),r as 01 110 sss, LD (HL),n as 0x36, n, and they
complete at cost 8, 8 and 12: the register takes the byte read at HL as it was before the instruction (also where the
destination is H or L), or one byte write of the register or the immediate goes to HL; no flag and nothing else changes.
(Stated: R202, R203, R204.) -/
def Obligations.LoadAndStoreAtHl : Prop :=
  (∀ (i : Instr) (dst : Reg8) (s : State), i.form = .ldRegMem dst →
    encode i = [1#2 ++ dst.code ++ 6#3] ∧ exec i s = .next { setReg dst (memRead s (s.h ++ s.l)) s with cycles := 8 }) ∧
  (∀ (i : Instr) (src : Reg8) (s : State), i.form = .ldMemReg src →
    encode i = [1#2 ++ 6#3 ++ src.code] ∧
    exec i s = .next { memWrite (s.h ++ s.l) (getReg src s) s with cycles := 8 }) ∧
  (∀ (i : Instr) (n : Byte) (s : State), i.form = .ldMemImm n →
    encode i = [0x36#8, n] ∧ exec i s = .next { memWrite (s.h ++ s.l) n s with cycles := 12 })

/-- LD A,(BC), LD A,(DE), LD A,(nn) encode as 0x0A, 0x1A, 0xFA nn and LD (BC),A, LD (DE),A, LD (nn),A as 0x02, 0x12,
0xEA nn, nn low byte first, and complete at cost 8, 8 and 16: A takes the byte read at the address, or one byte write of
A goes to it; no flag and nothing else changes. (Stated: R205, R206, R207, R208, R209, R210.) -/
def Obligations.AccumulatorIndirect : Prop :=
  ∀ s : State,
    (encode .ldAMemBc = [0x0A#8] ∧ exec .ldAMemBc s = .next { s with a := memRead s (s.b ++ s.c), cycles := 8 }) ∧
    (encode .ldAMemDe = [0x1A#8] ∧ exec .ldAMemDe s = .next { s with a := memRead s (s.d ++ s.e), cycles := 8 }) ∧
    (∀ nn : Word, encode (.ldAMemNn nn) = [0xFA#8, nn.extractLsb' 0 8, nn.extractLsb' 8 8] ∧
      exec (.ldAMemNn nn) s = .next { s with a := memRead s nn, cycles := 16 }) ∧
    (encode .ldMemBcA = [0x02#8] ∧ exec .ldMemBcA s = .next { memWrite (s.b ++ s.c) s.a s with cycles := 8 }) ∧
    (encode .ldMemDeA = [0x12#8] ∧ exec .ldMemDeA s = .next { memWrite (s.d ++ s.e) s.a s with cycles := 8 }) ∧
    (∀ nn : Word, encode (.ldMemNnA nn) = [0xEA#8, nn.extractLsb' 0 8, nn.extractLsb' 8 8] ∧
      exec (.ldMemNnA nn) s = .next { memWrite nn s.a s with cycles := 16 })

/-- LDH A,(C), LDH (C),A, LDH A,(n) and LDH (n),A encode as 0xF2, 0xE2, 0xF0 n and 0xE0 n and complete: A is loaded from
or stored to the address whose high byte is 0xFF and whose low byte is C or n, cost 8 for the C forms and 12 for the n
forms, nothing else changes. (Stated: R211, R212, R213, R214.) -/
def Obligations.HighPageLoads : Prop :=
  ∀ s : State,
    (encode .ldhAMemC = [0xF2#8] ∧ exec .ldhAMemC s = .next { s with a := memRead s (0xFF#8 ++ s.c), cycles := 8 }) ∧
    (encode .ldhMemCA = [0xE2#8] ∧ exec .ldhMemCA s = .next { memWrite (0xFF#8 ++ s.c) s.a s with cycles := 8 }) ∧
    (∀ n : Byte, encode (.ldhAMemN n) = [0xF0#8, n] ∧
      exec (.ldhAMemN n) s = .next { s with a := memRead s (0xFF#8 ++ n), cycles := 12 }) ∧
    (∀ n : Byte, encode (.ldhMemNA n) = [0xE0#8, n] ∧
      exec (.ldhMemNA n) s = .next { memWrite (0xFF#8 ++ n) s.a s with cycles := 12 })

/-- The four instructions encode as 0x3A, 0x32, 0x2A and 0x22 and complete at cost 8: the load or the store is at the
old HL, then HL is one lower or one higher modulo 2^16; no flag changes and nothing else does. (Stated: R215, R216,
R217, R218.) -/
def Obligations.LoadAndMoveHl : Prop :=
  ∀ s : State,
    let down := BitVec.ofNat 16 ((s.h ++ s.l).toNat + 65535)
    let up := BitVec.ofNat 16 ((s.h ++ s.l).toNat + 1)
    (encode .ldAMemHlDec = [0x3A#8] ∧
      exec .ldAMemHlDec s = .next { setHl down s with a := memRead s (s.h ++ s.l), cycles := 8 }) ∧
    (encode .ldMemHlDecA = [0x32#8] ∧
      exec .ldMemHlDecA s = .next { setHl down (memWrite (s.h ++ s.l) s.a s) with cycles := 8 }) ∧
    (encode .ldAMemHlInc = [0x2A#8] ∧
      exec .ldAMemHlInc s = .next { setHl up s with a := memRead s (s.h ++ s.l), cycles := 8 }) ∧
    (encode .ldMemHlIncA = [0x22#8] ∧
      exec .ldMemHlIncA s = .next { setHl up (memWrite (s.h ++ s.l) s.a s) with cycles := 8 })

/-- LD BC,nn, LD DE,nn, LD HL,nn, LD SP,nn encode as 00 pp 0001 with nn low byte first and complete at cost 12: the two
registers of the pair (or SP) take nn. LD SP,HL encodes as 0xF9 and completes at cost 8: SP takes HL. LD (nn),SP encodes
as 0x08 nn and completes at cost 20: the low byte of SP is written at nn, then the high byte at nn + 1 modulo 2^16, SP
unchanged. Nothing else changes. (Stated: R240, R241, R242.) -/
def Obligations.LoadAndStorePair : Prop :=
  (∀ (i : Instr) (p : Pair) (nn : Word) (s : State), i.form = .ldPairImm p nn →
    encode i = [0#2 ++ p.code ++ 1#4, nn.extractLsb' 0 8, nn.extractLsb' 8 8] ∧
    exec i s = .next (match p with
      | .bc => { s with b := nn.extractLsb' 8 8, c := nn.extractLsb' 0 8, cycles := 12 }
      | .de => { s with d := nn.extractLsb' 8 8, e := nn.extractLsb' 0 8, cycles := 12 }
      | .hl => { s with h := nn.extractLsb' 8 8, l := nn.extractLsb' 0 8, cycles := 12 }
      | .sp => { s with sp := nn, cycles := 12 })) ∧
  (∀ s : State, encode .ldSpHl = [0xF9#8] ∧ exec .ldSpHl s = .next { s with sp := s.h ++ s.l, cycles := 8 }) ∧
  (∀ (nn : Word) (s : State), encode (.ldMemNnSp nn) = [0x08#8, nn.extractLsb' 0 8, nn.extractLsb' 8 8] ∧
    exec (.ldMemNnSp nn) s = .next { memWrite (nn + 1#16) (s.sp.extractLsb' 8 8)
      (memWrite nn (s.sp.extractLsb' 0 8) s) with cycles := 20 })

/-- LD HL,SP+e and ADD SP,e encode as 0xF8 e and 0xE8 e and complete at cost 12 and 16: the result is SP plus the signed
displacement modulo 2^16; fZ = 0, fN = 0, fH and fC are the carries out of bits 3 and 7 of the unsigned addition of the
low byte of SP and the byte e. LD HL,SP+e leaves SP, ADD SP,e leaves HL, and nothing else changes. (Stated: R243, R303.)
-/
def Obligations.StackPointerPlusDisplacement : Prop :=
  ∀ (e : Byte) (s : State), ∃ (r : Word) (f' : Byte),
    (r.toNat : Int) = ((s.sp.toNat : Int) + e.toInt) % 65536 ∧
    flagsAre f' false false (decide (15 < s.sp.toNat % 16 + e.toNat % 16)) (decide (255 < s.sp.toNat % 256 + e.toNat)) ∧
    encode (.ldHlSpE e) = [0xF8#8, e] ∧ exec (.ldHlSpE e) s = .next { setHl r s with f := f', cycles := 12 } ∧
    encode (.addSpE e) = [0xE8#8, e] ∧ exec (.addSpE e) s = .next { s with sp := r, f := f', cycles := 16 }

/-- PUSH BC, PUSH DE, PUSH HL, PUSH AF encode as 11 pp 0101 and complete at cost 16: the first register of the pair is
written at SP - 1, then the second at SP - 2, SP ends two lower modulo 2^16, and no other register and no flag changes.
(Stated: R244.) -/
def Obligations.PushStoresHighThenLow : Prop :=
  ∀ (i : Instr) (p : StackPair) (s : State), i.form = .push p →
    encode i = [3#2 ++ p.code ++ 5#4] ∧
    exec i s = .next { memWrite (s.sp - 2#16) (match p with | .bc => s.c | .de => s.e | .hl => s.l | .af => s.f)
        (memWrite (s.sp - 1#16) (match p with | .bc => s.b | .de => s.d | .hl => s.h | .af => s.a) s)
      with sp := s.sp - 2#16, cycles := 16 }

/-- POP BC, POP DE, POP HL, POP AF encode as 11 pp 0001 and complete at cost 12: the second register of the pair takes
the byte at SP, the first the byte at SP + 1, SP ends two higher modulo 2^16; for AF the four low bits of F are cleared
and the flags are the popped bits 7 to 4; for the other pairs no flag changes; nothing else changes. (Stated: R245.) -/
def Obligations.PopReadsLowThenHigh : Prop :=
  ∀ (i : Instr) (p : StackPair) (s : State), i.form = .pop p →
    let lo := memRead s s.sp
    let hi := memRead s (s.sp + 1#16)
    encode i = [3#2 ++ p.code ++ 1#4] ∧
    exec i s = .next (match p with
      | .bc => { s with b := hi, c := lo, sp := s.sp + 2#16, cycles := 12 }
      | .de => { s with d := hi, e := lo, sp := s.sp + 2#16, cycles := 12 }
      | .hl => { s with h := hi, l := lo, sp := s.sp + 2#16, cycles := 12 }
      | .af => { s with a := hi, f := BitVec.ofNat 8 (lo.toNat / 16 * 16), sp := s.sp + 2#16, cycles := 12 })

/-- Every ADD A, ADC A, SUB, SBC A, AND, XOR, OR, CP in its three forms encodes as 10 aaa sss, 10 aaa 110 and 11 aaa 110
n, and completes at cost 4, 8 and 8; its operand is the register (A itself read before A is written), the byte read at
HL, or the immediate: the new A and F are those of the immediate form on that value. (Stated: R260.) -/
def Obligations.AccumulatorForms : Prop :=
  (∀ (i : Instr) (op : AluOp) (r : Reg8) (s : State), i.form = .alu op (.reg r) →
    encode i = [2#2 ++ op.code ++ r.code] ∧
    ∃ t, exec i s = .next t ∧ t = { s with a := t.a, f := t.f, cycles := 4 } ∧
      ∀ (j : Instr) (u : State), j.form = .alu op (.imm (getReg r s)) → exec j s = .next u → t.a = u.a ∧ t.f = u.f) ∧
  (∀ (i : Instr) (op : AluOp) (s : State), i.form = .alu op .memHl →
    encode i = [2#2 ++ op.code ++ 6#3] ∧
    ∃ t, exec i s = .next t ∧ t = { s with a := t.a, f := t.f, cycles := 8 } ∧
      ∀ (j : Instr) (u : State), j.form = .alu op (.imm (memRead s (s.h ++ s.l))) → exec j s = .next u →
        t.a = u.a ∧ t.f = u.f) ∧
  (∀ (i : Instr) (op : AluOp) (n : Byte) (s : State), i.form = .alu op (.imm n) →
    encode i = [3#2 ++ op.code ++ 6#3, n] ∧
    ∃ t, exec i s = .next t ∧ t = { s with a := t.a, f := t.f, cycles := 8 })

/-- Every ADD A,s and ADC A,s (register, (HL) and immediate forms) completes: A takes the sum of A, the operand and, for
ADC, the incoming carry, modulo 2^8; fZ says it is zero, fN = 0, fH that the low nibbles (and the carry) exceed 15, fC
that the sum exceeds 255; no other register, no memory byte and no other state changes but the cost. (Stated: R261,
R262.) -/
def Obligations.AddAndAddWithCarry : Prop :=
  ∀ (i : Instr) (op : AluOp) (src : Src) (s : State), (op = .add ∨ op = .adc) → i.form = .alu op src →
    let v := (getSrc src s).toNat
    let c := if op = .adc then (flagC s.f).toNat else 0
    let sum := s.a.toNat + v + c
    ∃ f', flagsAre f' (decide (sum % 256 = 0)) false (decide (15 < s.a.toNat % 16 + v % 16 + c)) (decide (255 < sum)) ∧
      exec i s = .next { s with a := BitVec.ofNat 8 (sum % 256), f := f', cycles := accCost src }

/-- Every SUB s, SBC A,s and CP s (register, (HL) and immediate forms) completes: the difference of A, the operand and,
for SBC, the incoming carry modulo 2^8 goes to A (for CP nowhere); fZ says it is zero, fN = 1, fH and fC are the borrows
out of the low nibble and out of the byte; nothing else changes but the cost. (Stated: R263, R264, R268.) -/
def Obligations.SubtractAndCompare : Prop :=
  ∀ (i : Instr) (op : AluOp) (src : Src) (s : State), (op = .sub ∨ op = .sbc ∨ op = .cp) → i.form = .alu op src →
    let v := (getSrc src s).toNat
    let c := if op = .sbc then (flagC s.f).toNat else 0
    let res := (s.a.toNat + 512 - v - c) % 256
    ∃ f', flagsAre f' (decide (res = 0)) true (decide (s.a.toNat % 16 < v % 16 + c)) (decide (s.a.toNat < v + c)) ∧
      exec i s = .next { s with a := if op = .cp then s.a else BitVec.ofNat 8 res, f := f', cycles := accCost src }

/-- Every AND s, XOR s and OR s (register, (HL) and immediate forms) completes: A takes the bitwise result, fZ says it
is zero, fN = 0, fC = 0, and fH is 1 for AND and 0 for XOR and OR; nothing else changes but the cost. (Stated: R265,
R266, R267.) -/
def Obligations.LogicOperations : Prop :=
  ∀ (i : Instr) (op : AluOp) (src : Src) (s : State), (op = .and ∨ op = .xor ∨ op = .or) → i.form = .alu op src →
    ∃ a' f', (∀ j, j < 8 → a'.getLsbD j =
        match op with
        | .and => s.a.getLsbD j && (getSrc src s).getLsbD j
        | .xor => s.a.getLsbD j ^^ (getSrc src s).getLsbD j
        | _ => s.a.getLsbD j || (getSrc src s).getLsbD j) ∧
      flagsAre f' (decide (a'.toNat = 0)) false (decide (op = .and)) false ∧
      exec i s = .next { s with a := a', f := f', cycles := accCost src }

/-- All INC r (B C D E H L A) encode as 00 ddd 100, INC (HL) as 0x34, all DEC r as 00 ddd 101, DEC (HL) as 0x35, and
they complete at cost 4, or 12 for (HL): the operand is written one higher or one lower modulo 2^8 (for (HL) one read
then one byte write at HL); fZ says the result is zero, fN = 0 for INC and 1 for DEC, fH that the old low nibble was 15
for INC and 0 for DEC, fC is kept; nothing else changes. (Stated: R269, R270, R271, R272.) -/
def Obligations.IncrementAndDecrementByte : Prop :=
  ∀ (i : Instr) (o : Opnd) (s : State),
    let old := (getOpnd o s).toNat
    (i.form = .inc o → ∃ f', flagsAre f' (decide ((old + 1) % 256 = 0)) false (decide (old % 16 = 15)) (flagC s.f) ∧
      encode i = [0#2 ++ o.code ++ 4#3] ∧
      exec i s = .next { setOpnd o (BitVec.ofNat 8 ((old + 1) % 256)) s with f := f', cycles := byOpnd o 4 12 }) ∧
    (i.form = .dec o → ∃ f', flagsAre f' (decide ((old + 255) % 256 = 0)) true (decide (old % 16 = 0)) (flagC s.f) ∧
      encode i = [0#2 ++ o.code ++ 5#3] ∧
      exec i s = .next { setOpnd o (BitVec.ofNat 8 ((old + 255) % 256)) s with f := f', cycles := byOpnd o 4 12 })

/-- DAA encodes as 0x27 and completes at cost 4: after an addition (fN = 0) 0x06 is added if fH = 1 or the low nibble
exceeds 9, and 0x60 if fC = 1 or A exceeds 0x99, which then sets fC; after a subtraction (fN = 1) 0x06 is subtracted if
fH = 1 and 0x60 if fC = 1, and fC stays; A takes the result modulo 2^8, fZ says it is zero, fN is kept, fH = 0; nothing
else changes. (Stated: R273.) -/
def Obligations.DecimalAdjust : Prop :=
  ∀ s : State,
    let a := s.a.toNat
    let low : Bool := flagH s.f || (!flagN s.f && decide (9 < a % 16))
    let high : Bool := flagC s.f || (!flagN s.f && decide (0x99 < a))
    let adj := 0x06 * low.toNat + 0x60 * high.toNat
    let res := if flagN s.f then (a + 256 - adj) % 256 else (a + adj) % 256
    ∃ f', flagsAre f' (decide (res = 0)) (flagN s.f) false high ∧
      encode .daa = [0x27#8] ∧ exec .daa s = .next { s with a := BitVec.ofNat 8 res, f := f', cycles := 4 }

/-- CPL, SCF and CCF encode as 0x2F, 0x37 and 0x3F and complete at cost 4. CPL: A takes 255 - A, fN = fH = 1, fZ and fC
kept. SCF: fN = fH = 0, fC = 1, fZ kept. CCF: fN = fH = 0, fC inverted, fZ kept. Nothing else changes. (Stated: R274,
R275, R276.) -/
def Obligations.ComplementAndCarryFlags : Prop :=
  ∀ s : State,
    (∃ f', flagsAre f' (flagZ s.f) true true (flagC s.f) ∧ encode .cpl = [0x2F#8] ∧
      exec .cpl s = .next { s with a := BitVec.ofNat 8 (255 - s.a.toNat), f := f', cycles := 4 }) ∧
    (∃ f', flagsAre f' (flagZ s.f) false false true ∧ encode .scf = [0x37#8] ∧
      exec .scf s = .next { s with f := f', cycles := 4 }) ∧
    (∃ f', flagsAre f' (flagZ s.f) false false (!flagC s.f) ∧ encode .ccf = [0x3F#8] ∧
      exec .ccf s = .next { s with f := f', cycles := 4 })

/-- ADD HL,BC, ADD HL,DE, ADD HL,HL and ADD HL,SP encode as 00 pp 1001 and complete at cost 8: HL takes the sum modulo
2^16, fZ is kept, fN = 0, fH is the carry out of bit 11, fC the carry out of bit 15; nothing else changes. (Stated:
R300.) -/
def Obligations.AddPairToHl : Prop :=
  ∀ (i : Instr) (p : Pair) (s : State), i.form = .addHl p →
    let x := (s.h ++ s.l).toNat
    let v := (match p with | .bc => s.b ++ s.c | .de => s.d ++ s.e | .hl => s.h ++ s.l | .sp => s.sp).toNat
    ∃ f', flagsAre f' (flagZ s.f) false (decide (0xFFF < x % 4096 + v % 4096)) (decide (0xFFFF < x + v)) ∧
      encode i = [0#2 ++ p.code ++ 9#4] ∧
      exec i s = .next { setHl (BitVec.ofNat 16 ((x + v) % 65536)) s with f := f', cycles := 8 }

/-- INC BC, INC DE, INC HL, INC SP encode as 00 pp 0011 and DEC BC, DEC DE, DEC HL, DEC SP as 00 pp 1011, and they
complete at cost 8: the pair is one higher or one lower modulo 2^16; no flag changes and nothing else does. (Stated:
R301, R302.) -/
def Obligations.IncrementAndDecrementPair : Prop :=
  ∀ (i : Instr) (p : Pair) (s : State),
    let v := (match p with | .bc => s.b ++ s.c | .de => s.d ++ s.e | .hl => s.h ++ s.l | .sp => s.sp).toNat
    (i.form = .incPair p → encode i = [0#2 ++ p.code ++ 3#4] ∧
      exec i s = .next { setPair p (BitVec.ofNat 16 ((v + 1) % 65536)) s with cycles := 8 }) ∧
    (i.form = .decPair p → encode i = [0#2 ++ p.code ++ 0xB#4] ∧
      exec i s = .next { setPair p (BitVec.ofNat 16 ((v + 65535) % 65536)) s with cycles := 8 })

/-- RLCA, RRCA, RLA and RRA encode as 0x07, 0x0F, 0x17 and 0x1F and complete at cost 4: A is rotated one place (through
fC for RLA and RRA), fC takes the bit shifted out, fZ = fN = fH = 0 whatever the result; nothing else changes. (Stated:
R310, R311, R312, R313.) -/
def Obligations.AccumulatorRotates : Prop :=
  ∀ s : State, ∀ x ∈ ([(.rlca, .rlc, 0x07#8), (.rrca, .rrc, 0x0F#8), (.rla, .rl, 0x17#8), (.rra, .rr, 0x1F#8)] :
      List (Instr × RotOp × Byte)),
    let r := rotNat x.2.1 s.a.toNat (flagC s.f).toNat
    ∃ f', flagsAre f' false false false (decide (r.2 = 1)) ∧ encode x.1 = [x.2.2] ∧
      exec x.1 s = .next { s with a := BitVec.ofNat 8 r.1, f := f', cycles := 4 }

/-- All eight CB-page operations on each of the eight operands encode as 0xCB, 00 rot sss and complete at cost 8, or 16
for (HL): the operand is written with the result (for (HL) one read then one byte write at HL), fZ says it is zero, fN =
fH = 0, fC is the bit shifted out (0 for SWAP); nothing else changes. (Stated: R314, R315, R316, R317, R318, R319, R320,
R321, R322.) -/
def Obligations.CbRotatesAndShifts : Prop :=
  ∀ (i : Instr) (op : RotOp) (o : Opnd) (s : State), i.form = .rot op o →
    let r := rotNat op (getOpnd o s).toNat (flagC s.f).toNat
    ∃ f', flagsAre f' (decide (r.1 = 0)) false false (decide (r.2 = 1)) ∧
      encode i = [0xCB#8, 0#2 ++ op.code ++ o.code] ∧
      exec i s = .next { setOpnd o (BitVec.ofNat 8 r.1) s with f := f', cycles := byOpnd o 8 16 }

/-- Every BIT b,s, RES b,s and SET b,s encodes as 0xCB with 01, 10 or 11, bbb, sss and completes. BIT, cost 8 or 12 for
(HL): fZ is the complement of bit b of the operand, fN = 0, fH = 1, fC kept, nothing is written. RES and SET, cost 8 or
16 for (HL): the operand is written with bit b cleared or set and its other bits kept, no flag changes. Nothing else
changes. (Stated: R323, R324, R325.) -/
def Obligations.BitTestResetSet : Prop :=
  ∀ (i : Instr) (k : BitVec 3) (o : Opnd) (s : State),
    (i.form = .bit k o → ∃ f', flagsAre f' (!(getOpnd o s).getLsbD k.toNat) false true (flagC s.f) ∧
      encode i = [0xCB#8, 1#2 ++ k ++ o.code] ∧ exec i s = .next { s with f := f', cycles := byOpnd o 8 12 }) ∧
    (i.form = .res k o → ∃ v : Byte,
      (∀ j, j < 8 → v.getLsbD j = if j = k.toNat then false else (getOpnd o s).getLsbD j) ∧
      encode i = [0xCB#8, 2#2 ++ k ++ o.code] ∧ exec i s = .next { setOpnd o v s with cycles := byOpnd o 8 16 }) ∧
    (i.form = .set k o → ∃ v : Byte,
      (∀ j, j < 8 → v.getLsbD j = if j = k.toNat then true else (getOpnd o s).getLsbD j) ∧
      encode i = [0xCB#8, 3#2 ++ k ++ o.code] ∧ exec i s = .next { setOpnd o v s with cycles := byOpnd o 8 16 })

/-- JP nn, JP HL and JR e encode as 0xC3 nn, 0xE9 and 0x18 e and complete at cost 16, 4 and 12: PC takes nn, HL (memory
is not read), or the address after the instruction plus the signed displacement modulo 2^16. JP NZ/Z/NC/C,nn encode as
110 cc 010 nn and JR NZ/Z/NC/C,e as 001 cc 000 e, and they complete: if cond(cc) holds on the flags, as the
unconditional form at cost 16 and 12; otherwise PC stays at the address after the instruction, cost 12 and 8. No flag,
register or memory byte changes. (Stated: R341, R342, R343, R344, R345.) -/
def Obligations.JumpsTakeTheTarget : Prop :=
  ∀ (i : Instr) (k : Cond) (s : State),
    (∀ nn : Word, i = .jpNn nn → encode i = [0xC3#8, nn.extractLsb' 0 8, nn.extractLsb' 8 8] ∧
      exec i s = .next { s with pc := nn, cycles := 16 }) ∧
    (i = .jpHl → encode i = [0xE9#8] ∧ exec i s = .next { s with pc := s.h ++ s.l, cycles := 4 }) ∧
    (∀ nn : Word, i.form = .jpCond k nn →
      encode i = [6#3 ++ k.code ++ 2#3, nn.extractLsb' 0 8, nn.extractLsb' 8 8] ∧
      exec i s = .next (if condTrue k s.f then { s with pc := nn, cycles := 16 } else { s with cycles := 12 })) ∧
    (∀ e : Byte, ∃ target : Word, (target.toNat : Int) = ((s.pc.toNat : Int) + e.toInt) % 65536 ∧
      (i = .jrE e → encode i = [0x18#8, e] ∧ exec i s = .next { s with pc := target, cycles := 12 }) ∧
      (i.form = .jrCond k e → encode i = [1#3 ++ k.code ++ 0#3, e] ∧
        exec i s = .next (if condTrue k s.f then { s with pc := target, cycles := 12 } else { s with cycles := 8 })))

/-- CALL nn encodes as 0xCD nn, CALL NZ/Z/NC/C,nn as 110 cc 100 nn, RST t as 11 ttt 111, and they complete: the high
byte of PC (the address after the instruction) is written at SP - 1, then its low byte at SP - 2, SP ends two lower, PC
takes nn or 8 * ttt; cost 24, 24 and 16. A CALL cc whose condition is false costs 12 and changes nothing else. No flag
and no other register changes. (Stated: R346, R347, R351.) -/
def Obligations.CallsPushTheReturnAddress : Prop :=
  ∀ (i : Instr) (s : State),
    let called : Word → Nat → State := fun target cost =>
      { memWrite (s.sp - 2#16) (s.pc.extractLsb' 0 8) (memWrite (s.sp - 1#16) (s.pc.extractLsb' 8 8) s)
        with sp := s.sp - 2#16, pc := target, cycles := cost }
    (∀ nn : Word, i.form = .call nn → encode i = [0xCD#8, nn.extractLsb' 0 8, nn.extractLsb' 8 8] ∧
      exec i s = .next (called nn 24)) ∧
    (∀ (k : Cond) (nn : Word), i.form = .callCond k nn →
      encode i = [6#3 ++ k.code ++ 4#3, nn.extractLsb' 0 8, nn.extractLsb' 8 8] ∧
      exec i s = .next (if condTrue k s.f then called nn 24 else { s with cycles := 12 })) ∧
    (∀ k : BitVec 3, i.form = .rst k → encode i = [3#2 ++ k ++ 7#3] ∧
      exec i s = .next (called (BitVec.ofNat 16 (8 * k.toNat)) 16))

/-- RET, RET NZ/Z/NC/C and RETI encode as 0xC9, 110 cc 000 and 0xD9 and complete: PC takes the byte at SP as low half
and the byte at SP + 1 as high half, SP ends two higher; RETI also sets IME; cost 16, 20 and 16. A RET cc whose
condition is false costs 8 and changes nothing else. IF, ime_pending, flags and every other register are unchanged.
(Stated: R348, R349, R350.) -/
def Obligations.ReturnsPopTheAddress : Prop :=
  ∀ (i : Instr) (s : State),
    let back : Nat → State := fun cost =>
      { s with pc := memRead s (s.sp + 1#16) ++ memRead s s.sp, sp := s.sp + 2#16, cycles := cost }
    (i = .ret → encode i = [0xC9#8] ∧ exec i s = .next (back 16)) ∧
    (∀ k : Cond, i.form = .retCond k → encode i = [6#3 ++ k.code ++ 0#3] ∧
      exec i s = .next (if condTrue k s.f then back 20 else { s with cycles := 8 })) ∧
    (i = .reti → encode i = [0xD9#8] ∧ exec i s = .next { back 16 with ime := true })

/-- NOP, STOP (with any second byte), DI and EI encode as 0x00, 0x10 n, 0xF3 and 0xFB and complete at cost 4. NOP
changes nothing; STOP sets the mode to STOPPED; DI clears IME and ime_pending; EI sets ime_pending and leaves IME.
Nothing else changes. (Stated: R370, R372, R373, R374.) -/
def Obligations.NopStopAndEnables : Prop :=
  ∀ s : State,
    (encode .nop = [0x00#8] ∧ exec .nop s = .next { s with cycles := 4 }) ∧
    (∀ n : Byte, encode (.stop n) = [0x10#8, n] ∧ exec (.stop n) s = .next { s with mode := .stopped, cycles := 4 }) ∧
    (encode .di = [0xF3#8] ∧ exec .di s = .next { s with ime := false, imePending := false, cycles := 4 }) ∧
    (encode .ei = [0xFB#8] ∧ exec .ei s = .next { s with imePending := true, cycles := 4 })

/-- HALT encodes as 0x76 and completes at cost 4: if IME = 0 and some source is both requested in IF and enabled in IE,
halt_bug is set and the mode stays; otherwise the mode becomes HALTED. Bits 7 to 5 of IE take no part. Nothing else
changes. (Stated: R371.) -/
def Obligations.HaltHaltsOrArmsTheQuirk : Prop :=
  ∀ s : State,
    let enabled := ∃ k, k < 5 ∧ s.ie.getLsbD k = true ∧ s.irq.getLsbD k = true
    encode .halt = [0x76#8] ∧
    (s.ime = false ∧ enabled → exec .halt s = .next { s with haltBug := true, cycles := 4 }) ∧
    (¬(s.ime = false ∧ enabled) → exec .halt s = .next { s with mode := .halted, cycles := 4 })

/-- The prefix byte alone, run on the state after its own fetch, completes: it fetches op2 at PC, moves PC past it, and
does what the CB-page instruction 0xCB, op2 does, at that instruction's cost; the fetched pair decodes to that
instruction. That the prefix byte alone is an instruction, with an encoding of one byte, is the model's choice, log
entry 6: in R375 and R185 the prefix and op2 are one two-byte instruction, and a step always runs that one. (Derived:
46_system, 30_encoding section 6, R375, R185.) -/
def Obligations.PrefixSelectsTheCbPage : Prop :=
  encode .prefixCb = [0xCB#8] ∧
  ∀ s : State, ∃ t, exec .prefixCb s = .next t ∧
    exec (cbPage (memRead s s.pc)) { s with pc := s.pc + 1#16 } = .next t ∧
    decode [0xCB#8, memRead s s.pc] = .ok (cbPage (memRead s s.pc), [])

/-- On a running machine with nothing to service whose byte at PC is one of the eleven undefined values, the step takes
the UnimplementedOpcode fault: the mode becomes FAULTED, the record holds the byte and the address it was fetched from,
and nothing else changes: not PC, clock, the timer, IF, ime_pending or halt_bug. The failure step() returns, here and at
every later step, carries that record (the model's choice, log entry 4, and for the state exec runs on log entry 12:
this step answers the state it leaves, stepFailure reads the failure off it, and the steps after it end in that fault).
The eleven instructions ILLEGAL_D3 to ILLEGAL_FD encode as their byte and do exactly this. With an interrupt to service,
the service comes first (InterruptServiceStep). (Derived: 46_system, 60_exceptions sections 1 and 2, R376, R400, R405,
R406.) -/
def Obligations.UndefinedOpcodeFaultsPrecisely : Prop :=
  (∀ (i : Instr) (op : Byte) (s : State), i.form = .illegal op → encode i = [op] ∧ op ∈ undefinedBytes ∧
    exec i s = .next { s with mode := .faulted, fault := some { opcode := op, pc := s.pc } }) ∧
  (∀ s : State, runsInstruction s → memRead s s.pc ∈ undefinedBytes → ∃ t,
    step s = .next t ∧ t = { s with mode := .faulted, fault := some { opcode := memRead s s.pc, pc := s.pc } } ∧
    stepFailure t = some (.unimplementedOpcode (some { opcode := memRead s s.pc, pc := s.pc })) ∧
    step t = .fault (.unimplementedOpcode (some { opcode := memRead s s.pc, pc := s.pc })))

/-- On a running machine with nothing to service, when the bytes fetched at PC (the bytes from PC itself after the
opcode, when the halt quirk is armed) decode to an instruction i: if the byte at PC is defined, the step is exec of i on
the state with PC past the instruction and the quirk consumed, then the promotion of the enable that was pending before
the instruction, then the clock and the timer advanced by its cost; if it is undefined, the step is exec of i on the
state as it stands, with none of that. Where the line between exec and step runs is the model's choice, log entries 10
and 12; that the undefined opcode's step answers a next state is log entry 4's. (Derived: 60_exceptions section 1,
30_encoding section 6, R400, R186.) -/
def Obligations.StepRunsDecodedInstruction : Prop :=
  ∀ (s : State) (i : Instr) (rest : List Byte), runsInstruction s → decode (fetchedBytes s) = .ok (i, rest) →
    (memRead s s.pc ∈ undefinedBytes → step s = exec i s) ∧
    (memRead s s.pc ∉ undefinedBytes → ∀ t, exec i (fetched s (encode i).length) = .next t →
      step s = .next (finish (promoteIme s.imePending t)))

/-- A step ends in a fault exactly when the mode is FAULTED, and then with the record of the fault; every other step
answers a next state; no step is refused. So nothing else faults. That the fault comes exactly in mode FAULTED, the step
that meets an undefined opcode answering a next state, is the model's choice, log entry 4: in R400 and R405 that step
itself returns the failure. (Derived: 60_exceptions sections 1 and 2, R400, R405, R406, R407, R481.) -/
def Obligations.FaultedMachineStaysFaulted : Prop :=
  ∀ s : State, (s.mode = .faulted → step s = .fault (.unimplementedOpcode s.fault)) ∧
    (s.mode ≠ .faulted → ∃ t, step s = .next t)

/-- A halted machine with no enabled request pending, and a stopped machine with IF[4] = 0, idles: the clock advances by
4, tick(4) runs, and nothing else changes but the recorded cost 4. A halted machine with an enabled request pending,
whatever IME is, and a stopped machine with IF[4] = 1, whatever IE and IME are, steps exactly as the same machine in
mode RUNNING. (Stated: R430, R436.) -/
def Obligations.HaltedAndStoppedMachinesIdle : Prop :=
  ∀ s : State,
    let enabled := ∃ k, k < 5 ∧ s.ie.getLsbD k = true ∧ s.irq.getLsbD k = true
    (s.mode = .halted ∧ ¬enabled ∨ s.mode = .stopped ∧ s.irq.getLsbD 4 = false →
      step s = .next (tick 4 { s with clock := s.clock + 4, cycles := 4 })) ∧
    (s.mode = .halted ∧ enabled ∨ s.mode = .stopped ∧ s.irq.getLsbD 4 = true →
      step s = step { s with mode := .running })

/-- On a machine that is running, halted, or stopped with a joypad request, with IME = 1 and highest-priority pending
source k, the step is the service of k: the mode is RUNNING, PC is pushed (high byte at SP - 1, then low byte at SP -
2), IME, ime_pending and halt_bug are cleared, after the pushes IF[k] is cleared, PC takes 0x0040 + 8k, the clock and
the timer advance by 20, and nothing else changes; nothing is fetched. (Stated: R420.) -/
def Obligations.InterruptServiceStep : Prop :=
  ∀ (s : State) (k : Source), (s.mode = .running ∨ s.mode = .halted ∨ s.mode = .stopped ∧ s.irq.getLsbD 4 = true) →
    s.ime = true → firstPending s k →
    let pushed := memWrite (s.sp - 2#16) (s.pc.extractLsb' 0 8) (memWrite (s.sp - 1#16) (s.pc.extractLsb' 8 8) s)
    step s = .next (tick 20 { pushed with
      sp := s.sp - 2#16, pc := BitVec.ofNat 16 (0x40 + 8 * k.bitIndex), mode := .running, ime := false
      imePending := false, haltBug := false, irq := acknowledged pushed.irq k, clock := s.clock + 20, cycles := 20 })

/-- The five sources VBlank, Stat, Timer, Serial, Joypad own bits 0 to 4 and the addresses 0x40, 0x48, 0x50, 0x58, 0x60.
highest_pending of the pending set is source k exactly when bit k is set in both IE and IF and no lower bit is; it is
nothing exactly when no bit of 0 to 4 is set in both; IE[7:5] take no part. (Stated: R414.) -/
def Obligations.PriorityIsLowestNumber : Prop :=
  ([.vblank, .stat, .timer, .serial, .joypad] : List Source).map (fun k => (k.bitIndex, k.serviceAddress)) =
    [(0, 0x0040#16), (1, 0x0048#16), (2, 0x0050#16), (3, 0x0058#16), (4, 0x0060#16)] ∧
  ∀ s : State, (∀ k, highestPending (pendingSet s) = some k ↔ firstPending s k) ∧
    (highestPending (pendingSet s) = none ↔ ∀ k, k < 5 → ¬(s.ie.getLsbD k = true ∧ s.irq.getLsbD k = true))

/-- request(k) sets bit k of IF and leaves every other bit and all other state, and doing it twice is doing it once;
acknowledge(k) clears bit k and leaves the rest; set_master_enable(b) writes IME and leaves the rest. (Derived:
60_exceptions section 3, R413, R415, R416.) -/
def Obligations.ControllerOperations : Prop :=
  ∀ (s : State) (k : Source) (on : Bool),
    (request k s = { s with irq := (request k s).irq } ∧ request k (request k s) = request k s ∧
      ∀ j, j < 5 → (request k s).irq.getLsbD j = (decide (j = k.bitIndex) || s.irq.getLsbD j)) ∧
    (acknowledge k s = { s with irq := (acknowledge k s).irq } ∧
      ∀ j, j < 5 → (acknowledge k s).irq.getLsbD j = (!decide (j = k.bitIndex) && s.irq.getLsbD j)) ∧
    setMasterEnable on s = { s with ime := on }

/-- For an instruction step on a running machine with IME = 0: an EI step that starts with nothing pending leaves IME =
0 and ime_pending = 1. A step that starts with ime_pending = 1 and runs any defined instruction but DI, in any state,
ends with IME = 1 and ime_pending = 0; DI there ends with both 0. A step that starts with ime_pending = 0 and runs any
defined instruction but RETI and EI ends with both unchanged. (Stated: R426.) -/
def Obligations.EnableIsDelayedByOneInstruction : Prop :=
  ∀ s t : State, runsInstruction s → s.ime = false → memRead s s.pc ∉ undefinedBytes → step s = .next t →
    (s.imePending = false → memRead s s.pc = 0xFB#8 → t.ime = false ∧ t.imePending = true) ∧
    (s.imePending = true → memRead s s.pc ≠ 0xF3#8 → t.ime = true ∧ t.imePending = false) ∧
    (s.imePending = true → memRead s s.pc = 0xF3#8 → t.ime = false ∧ t.imePending = false) ∧
    (s.imePending = false → memRead s s.pc ≠ 0xFB#8 → memRead s s.pc ≠ 0xD9#8 → t.ime = false ∧ t.imePending = false)

/-- Over every step of every machine: if IME goes from 0 to 1, an enable was pending before the step or the byte at PC
was RETI; if IME goes from 1 to 0, an interrupt was serviced (some source was pending and enabled) or the byte at PC was
DI. No memory write touches IME and no memory read depends on it. (Stated: R40.) -/
def Obligations.MasterEnableChangesOnlyBy : Prop :=
  (∀ s t : State, step s = .next t →
    (s.ime = false → t.ime = true → s.imePending = true ∨ memRead s s.pc = 0xD9#8) ∧
    (s.ime = true → t.ime = false → (∃ k, firstPending s k) ∨ memRead s s.pc = 0xF3#8)) ∧
  (∀ (s : State) (addr : Word) (v : Byte) (on : Bool), (memWrite addr v s).ime = s.ime ∧
    memRead { s with ime := on } addr = memRead s addr)

/-- tick(c) for any c: div advances by c modulo 2^16. If the counter is disabled nothing else changes and no request is
raised. If it is enabled, tsub + c is divided by the period: the remainder is the new tsub, and the counter is
incremented as many times as the quotient, an increment from 0xFF giving TMA and one request; the number of requests is
returned, and IF[2] is set if there was one. Nothing else changes. (Stated: R446, R447.) -/
def Obligations.TickAdvancesTheTimer : Prop :=
  ∀ (c : Nat) (s : State),
    let up := (counterUp s.tma)^[(s.tsub + c) / periodOf s.tac] (s.tima, 0)
    (s.tac.toNat < 4 → tickCount c s = ({ s with div := BitVec.ofNat 16 (s.div.toNat + c) }, 0)) ∧
    (4 ≤ s.tac.toNat → tickCount c s = ({ s with
      div := BitVec.ofNat 16 (s.div.toNat + c), tsub := (s.tsub + c) % periodOf s.tac, tima := up.1,
      irq := if 0 < up.2 then s.irq ||| 0b00100#5 else s.irq }, up.2))

/-- A read of 0x0000-0x3FFF gives the image byte; of 0x4000-0x7FFF the byte of the selected bank; of 0x8000-0x9FFF,
0xC000-0xDFFF, 0xE000-0xFDFF, 0xFE00-0xFE9F, 0xFF80-0xFFFE the cell; of 0xA000-0xBFFF the cell of the selected bank if
the RAM is enabled and present, else 0xFF; of 0xFEA0-0xFEFF 0xFF; of 0xFFFF all of IE. A write of v to VRAM, WRAM, the
echo, OAM, HRAM or IE stores v in that cell and changes nothing else; a write to the unused range is ignored. (Writes to
the cartridge windows: CartridgeWrites.) (Stated: R90, R92, R95, R96, R98, R99, R101, R102, R115, R116.) -/
def Obligations.StorageRegions : Prop :=
  ∀ (s : State) (x : Word),
    (x.toNat < 0x4000 → memRead s x = s.cart.rom.read x.toNat) ∧
    (0x4000 ≤ x.toNat → x.toNat < 0x8000 → memRead s x = s.cart.rom.read (s.romBank * 0x4000 + (x.toNat - 0x4000))) ∧
    (0x8000 ≤ x.toNat → x.toNat < 0xA000 → memRead s x = s.vram.read (x.toNat - 0x8000) ∧
      ∀ v, memWrite x v s = { s with vram := s.vram.write (x.toNat - 0x8000) v }) ∧
    (0xA000 ≤ x.toNat → x.toNat < 0xC000 → memRead s x =
      if s.ramEnable = true ∧ 0 < s.cart.ramBanks then s.xram.read (s.ramBank * 0x2000 + (x.toNat - 0xA000))
      else 0xFF#8) ∧
    (0xC000 ≤ x.toNat → x.toNat < 0xE000 → memRead s x = s.wram.read (x.toNat - 0xC000) ∧
      ∀ v, memWrite x v s = { s with wram := s.wram.write (x.toNat - 0xC000) v }) ∧
    (0xE000 ≤ x.toNat → x.toNat < 0xFE00 → memRead s x = s.wram.read (x.toNat - 0xE000) ∧
      ∀ v, memWrite x v s = { s with wram := s.wram.write (x.toNat - 0xE000) v }) ∧
    (0xFE00 ≤ x.toNat → x.toNat < 0xFEA0 → memRead s x = s.oam.read (x.toNat - 0xFE00) ∧
      ∀ v, memWrite x v s = { s with oam := s.oam.write (x.toNat - 0xFE00) v }) ∧
    (0xFEA0 ≤ x.toNat → x.toNat < 0xFF00 → memRead s x = 0xFF#8 ∧ ∀ v, memWrite x v s = s) ∧
    (0xFF80 ≤ x.toNat → x.toNat < 0xFFFF → memRead s x = s.hram.read (x.toNat - 0xFF80) ∧
      ∀ v, memWrite x v s = { s with hram := s.hram.write (x.toNat - 0xFF80) v }) ∧
    (x.toNat = 0xFFFF → memRead s x = s.ie ∧ ∀ v, memWrite x v s = { s with ie := v })

/-- 0xFF04 reads div[15:8] and any write clears div, TIMA and tsub; 0xFF05 and 0xFF06 read and write TIMA and TMA;
0xFF07 reads 0xF8 | TAC and writes its three low bits; 0xFF0F reads 0xE0 | IF and writes its five low bits; every other
address of 0xFF00-0xFF7F reads and writes its IO cell, all 8 bits. A write changes nothing but what is named. (Stated:
R105, R110, R111, R112, R113, R114, R117, R118.) -/
def Obligations.IoWindowRegisters : Prop :=
  ∀ s : State,
    (memRead s 0xFF04#16 = s.div.extractLsb' 8 8 ∧
      ∀ v, memWrite 0xFF04#16 v s = { s with div := 0#16, tima := 0#8, tsub := 0 }) ∧
    (memRead s 0xFF05#16 = s.tima ∧ ∀ v, memWrite 0xFF05#16 v s = { s with tima := v }) ∧
    (memRead s 0xFF06#16 = s.tma ∧ ∀ v, memWrite 0xFF06#16 v s = { s with tma := v }) ∧
    ((memRead s 0xFF07#16).toNat = 0xF8 + s.tac.toNat ∧
      ∀ v : Byte, memWrite 0xFF07#16 v s = { s with tac := BitVec.ofNat 3 v.toNat }) ∧
    ((memRead s 0xFF0F#16).toNat = 0xE0 + s.irq.toNat ∧
      ∀ v : Byte, memWrite 0xFF0F#16 v s = { s with irq := BitVec.ofNat 5 v.toNat }) ∧
    (∀ x : Word, 0xFF00 ≤ x.toNat → x.toNat < 0xFF80 →
      x.toNat ∉ ([0xFF04, 0xFF05, 0xFF06, 0xFF07, 0xFF0F] : List Nat) →
      memRead s x = s.io.read (x.toNat - 0xFF00) ∧
      ∀ v, memWrite x v s = { s with io := s.io.write (x.toNat - 0xFF00) v })

/-- Under NoMapper every write to 0x0000-0x7FFF is dropped. Under Banked a write of v to 0x0000-0x1FFF sets ram_enable
to (v[3:0] = 0xA); to 0x2000-0x3FFF sets rom_bank to v[4:0] mod ROM_BANKS, or 1 mod ROM_BANKS if that is 0; to
0x4000-0x5FFF sets ram_bank to v[1:0] mod RAM_BANKS, or 0 without external RAM; to 0x6000-0x7FFF is dropped. A write to
0xA000-0xBFFF stores into the selected bank if the RAM is enabled and present, else is dropped. Nothing else changes.
(Stated: R97, R128, R129, R130, R131.) -/
def Obligations.CartridgeWrites : Prop :=
  ∀ (s : State) (x : Word) (v : Byte),
    (s.cart.mapper = .noMapper → x.toNat < 0x8000 → memWrite x v s = s) ∧
    (s.cart.mapper = .banked → x.toNat < 0x2000 →
      memWrite x v s = { s with ramEnable := decide (v.toNat % 16 = 0xA) }) ∧
    (s.cart.mapper = .banked → 0x2000 ≤ x.toNat → x.toNat < 0x4000 → memWrite x v s = { s with romBank :=
      if v.toNat % 32 % s.cart.romBanks = 0 then 1 % s.cart.romBanks else v.toNat % 32 % s.cart.romBanks }) ∧
    (s.cart.mapper = .banked → 0x4000 ≤ x.toNat → x.toNat < 0x6000 → memWrite x v s = { s with ramBank :=
      if 0 < s.cart.ramBanks then v.toNat % 4 % s.cart.ramBanks else 0 }) ∧
    (s.cart.mapper = .banked → 0x6000 ≤ x.toNat → x.toNat < 0x8000 → memWrite x v s = s) ∧
    (0xA000 ≤ x.toNat → x.toNat < 0xC000 → memWrite x v s =
      if s.ramEnable = true ∧ 0 < s.cart.ramBanks
      then { s with xram := s.xram.write (s.ramBank * 0x2000 + (x.toNat - 0xA000)) v } else s)

/-- In a state whose memories are in canonical form, after a byte write to an address of VRAM, enabled external RAM,
WRAM or its echo, OAM, a pass-through I/O cell, TIMA, TMA, HRAM or IE, a read of any address gives the byte written if
it names the same cell (the echo folded onto WRAM) and what it gave before otherwise. (Derived: 20_memory section 3,
20_memory section 6, R147, R99.) -/
def Obligations.ReadAfterWrite : Prop :=
  ∀ (s : State) (addr x : Word) (v : Byte), s.MemInv → plainCell s addr →
    memRead (memWrite addr v s) x = if cellOf x = cellOf addr then v else memRead s x

/-- For every instruction, from every state: an address that none of the addresses the instruction stores to can touch
(the same cell; the banked windows for a store to the cartridge latches; 0xFF05 for a store to 0xFF04) reads after it
what it read before. The stored addresses are computed from the state the instruction runs on: HL, BC, DE, nn, the high
page, nn and nn + 1 for LD (nn),SP, SP - 1 and SP - 2 for PUSH, CALL and RST (a CALL cc only if taken), HL for the read-
modify-write forms; every other form stores nothing, so every address reads as before. (Derived: 40_load8 to 46_system,
20_memory section 6, R144, R147, R148.) -/
def Obligations.MemoryFrame : Prop :=
  ∀ (i : Instr) (s t : State) (x : Word), exec i s = .next t →
    (∀ addr ∈ storesTo i.form s, ¬mayTouch addr x) → memRead t x = memRead s x

/-- AF, BC, DE and HL read as 256 times the first register plus the second; writing a pair writes both registers and
nothing else; writing L changes the low byte of HL alone. Writing one of the seven 8-bit registers gives it the value,
leaves the other six, and changes nothing but those registers. The operand (HL) is read and written as the memory byte
at HL, every other operand as its register, and the three kinds of second operand are the register, the byte at HL and
the immediate. (Stated: R32.) -/
def Obligations.RegistersPairsAndOperands : Prop :=
  ∀ (s : State) (v : Word) (w : Byte),
    ((getAf s).toNat = 256 * s.a.toNat + s.f.toNat ∧ (getBc s).toNat = 256 * s.b.toNat + s.c.toNat ∧
      (getDe s).toNat = 256 * s.d.toNat + s.e.toNat ∧ (getHl s).toNat = 256 * s.h.toNat + s.l.toNat) ∧
    (setBc v s = { s with b := BitVec.ofNat 8 (v.toNat / 256), c := BitVec.ofNat 8 v.toNat } ∧
      setDe v s = { s with d := BitVec.ofNat 8 (v.toNat / 256), e := BitVec.ofNat 8 v.toNat } ∧
      setHl v s = { s with h := BitVec.ofNat 8 (v.toNat / 256), l := BitVec.ofNat 8 v.toNat }) ∧
    (getHl (setReg .l w s)).toNat = (getHl s).toNat / 256 * 256 + w.toNat ∧
    (∀ r r' : Reg8, getReg r' (setReg r w s) = if r' = r then w else getReg r' s) ∧
    (∀ r : Reg8, ∃ t : State, setReg r w s =
      { s with a := t.a, b := t.b, c := t.c, d := t.d, e := t.e, h := t.h, l := t.l }) ∧
    (getOpnd .memHl s = memRead s (getHl s) ∧ setOpnd .memHl w s = memWrite (getHl s) w s ∧
      getSrc .memHl s = memRead s (getHl s) ∧ getSrc (.imm w) s = w) ∧
    (∀ r : Reg8, getOpnd (.reg r) s = getReg r s ∧ setOpnd (.reg r) w s = setReg r w s ∧
      getSrc (.reg r) s = getReg r s)

/-- For every cartridge and every initial memory contents, reset leaves A=01 F=B0 B=00 C=13 D=00 E=D8 H=01 L=4D,
SP=FFFE, PC=0100; IME, ime_pending, halt_bug clear, mode RUNNING, no fault record, IE = IF = 0 (0xFF0F reads 0xE0); div,
TIMA, TMA, TAC, tsub, clock zero (0xFF07 reads 0xF8); rom_bank = 1 mod ROM_BANKS, ram_bank = 0, ram_enable = 1 exactly
for NoMapper with external RAM. The host's reset leaves such a state with the same configuration, and State.reset is
such a state. (Stated: R64, R65, R66, R67.) -/
def Obligations.ResetValues : Prop :=
  (∀ (k : Cartridge) (w h v o x : Memory), let s := State.launch k w h v o x
    ([s.a, s.f, s.b, s.c, s.d, s.e, s.h, s.l] = [0x01#8, 0xB0#8, 0x00#8, 0x13#8, 0x00#8, 0xD8#8, 0x01#8, 0x4D#8] ∧
      s.sp = 0xFFFE#16 ∧ s.pc = 0x0100#16) ∧
    (s.ime = false ∧ s.imePending = false ∧ s.haltBug = false ∧ s.mode = .running ∧ s.fault = none ∧ s.ie = 0x00#8 ∧
      s.irq = 0#5 ∧ memRead s 0xFF0F#16 = 0xE0#8) ∧
    (s.div = 0#16 ∧ s.tima = 0#8 ∧ s.tma = 0#8 ∧ s.tac = 0#3 ∧ s.tsub = 0 ∧ s.clock = 0 ∧
      memRead s 0xFF07#16 = 0xF8#8) ∧
    (s.romBank = 1 % k.romBanks ∧ s.ramBank = 0 ∧ (s.ramEnable = true ↔ k.mapper = .noMapper ∧ 0 < k.ramBanks))) ∧
  (∀ (s : State) (w h v o x : Memory), hostReset w h v o x s = State.launch s.cart w h v o x) ∧
  ∃ (k : Cartridge) (w h v o x : Memory), State.reset = State.launch k w h v o x

/-- Launching a well-formed cartridge with memories in canonical form gives a state that meets the invariant, and so
does State.reset. That State.reset takes the base cartridge and RAM bytes of 0x00 is the model's choice (log entries 1
and 2). (Derived: 10_state section 9, 20_memory section 5, R37, R132.) -/
def Obligations.ResetMeetsInvariant : Prop :=
  (∀ (k : Cartridge) (w h v o x : Memory), k.wellFormed = true → w.wf 8192 = true → h.wf 127 = true →
    v.wf 8192 = true → o.wf 160 = true → x.wf (k.ramBanks * 0x2000) = true → (State.launch k w h v o x).Inv) ∧
  State.reset.Inv

/-- From every state that meets the invariant, a step that answers a next state gives one that meets it: F[3:0] = 0;
rom_bank < ROM_BANKS and ram_bank < max(RAM_BANKS, 1), and under NoMapper the three latches keep their constants; every
memory is in canonical form with its size, and IO has no cell at the timer and interrupt indices; a fault record exactly
in mode FAULTED, and no halt quirk armed while halted or stopped; tsub below 1024; a well-formed cartridge. (Derived:
10_state, 20_memory section 5, R37, R52, R53, R125, R132.) -/
def Obligations.StepKeepsInvariant : Prop :=
  ∀ s t : State, s.Inv → step s = .next t → t.Inv

/-- Every environment action that is accepted (request, a write of an IO cell, of a VRAM cell, of an OAM cell, restore)
changes at most IF, IO, VRAM, OAM and XRAM; it can only set bits of IF; it is accepted for every source, every pass-
through IO index, every VRAM and OAM cell and every restore of the right length; and it keeps the invariant. Writes of
the five other IO indices and a restore of another length are refused: the model's choice, log entry 9 (R480 leaves the
writes out of what the environment may do, R483 makes the length a precondition, and neither gives an effect). (Derived:
70_reset_and_hazards section 3, R480, R483.) -/
def Obligations.EnvironmentKeepsItsBounds : Prop :=
  (∀ (e : EnvAction) (s t : State), envAct e s = .next t →
    t = { s with irq := t.irq, io := t.io, vram := t.vram, oam := t.oam, xram := t.xram } ∧
    (∀ j, s.irq.getLsbD j = true → t.irq.getLsbD j = true) ∧ (s.Inv → t.Inv)) ∧
  (∀ (s : State) (k : Source) (i : BitVec 7) (j : BitVec 13) (n : Fin 160) (v : Byte) (bytes : List Byte),
    envAct (.request k) s = .next (request k s) ∧
    envAct (.writeIo i v) s = (if i.toNat ∈ ([0x04, 0x05, 0x06, 0x07, 0x0F] : List Nat) then .refused .notPassThrough
      else .next { s with io := s.io.write i.toNat v }) ∧
    envAct (.writeVram j v) s = .next { s with vram := s.vram.write j.toNat v } ∧
    envAct (.writeOam n v) s = .next { s with oam := s.oam.write n.val v } ∧
    (bytes.length = s.cart.ramBanks * 0x2000 → ∃ t, envAct (.restore bytes) s = .next t) ∧
    (bytes.length ≠ s.cart.ramBanks * 0x2000 → envAct (.restore bytes) s = .refused .restoreLength))

/-- external_ram_bytes() is all RAM_BANKS * 0x2000 bytes of XRAM in physical order, whatever the latches hold; restore
of as many bytes succeeds, changes XRAM alone (the bank latches and the enable keep their values), and
external_ram_bytes() then gives exactly those bytes. Nothing depends on BATTERY. A list of another length breaks the
precondition and is refused (the model's choice, log entry 9). (Derived: 70_reset_and_hazards section 3, R483.) -/
def Obligations.RestoreReplacesExternalRam : Prop :=
  ∀ (s : State) (bytes : List Byte),
    ((externalRamBytes s).length = s.cart.ramBanks * 0x2000 ∧
      ∀ k, k < s.cart.ramBanks * 0x2000 → (externalRamBytes s)[k]? = some (s.xram.read k)) ∧
    (bytes.length = s.cart.ramBanks * 0x2000 →
      ∃ t, restore bytes s = .next t ∧ t = { s with xram := t.xram } ∧ externalRamBytes t = bytes) ∧
    (bytes.length ≠ s.cart.ramBanks * 0x2000 → restore bytes s = .refused .restoreLength)

/-- If run_until(budget) ends without a failure, it returns the clock's advance, which is at least the budget and at
most 23 cycles more; run_until(0) runs no step and changes nothing. How a failure is seen is the model's choice, log
entry 4; the bound on the passes is log entry 13's. (Derived: 70_reset_and_hazards section 3, R482, R401.) -/
def Obligations.RunUntilMeetsItsBudget : Prop :=
  (∀ (budget c : Nat) (s t : State), runUntil budget s = (t, .ran c) →
    t.clock = s.clock + c ∧ budget ≤ c ∧ c ≤ budget + 23) ∧
  (∀ s : State, runUntil 0 s = (s, .ran 0))

/-- Over every step of every machine: if the step completes (the next mode is not FAULTED), the recorded cost is one of
4, 8, 12, 16, 20, 24, the clock advances by exactly it and the divider too unless a store cleared it; if the step takes
the undefined-opcode fault, the clock and the timer do not move. The recorded cost is the model's field, log entry 5;
that a step taking the fault answers a next state is the model's choice, log entry 4. (Derived: 60_exceptions section 1,
10_state section 8, R401, R55, R473.) -/
def Obligations.StepCostsAndClock : Prop :=
  ∀ s t : State, step s = .next t →
    (t.mode ≠ .faulted → t.cycles ∈ ([4, 8, 12, 16, 20, 24] : List Nat) ∧ t.clock = s.clock + t.cycles ∧
      (t.div = s.div + BitVec.ofNat 16 t.cycles ∨ t.div = BitVec.ofNat 16 t.cycles)) ∧
    (t.mode = .faulted → t.clock = s.clock ∧ t.div = s.div ∧ t.tima = s.tima ∧ t.tsub = s.tsub)

/-- For every state and every other value of the clock, the step of the machine with that clock gives the same next
state but for the clock, which advances by the same amount: the program observes time only through the divider and the
counter. (Derived: 10_state section 8, 60_exceptions section 8, R55, R462.) -/
def Obligations.ClockIsNotObserved : Prop :=
  ∀ (s t : State) (n : Nat), step s = .next t →
    step { s with clock := n } = .next { t with clock := n + (t.clock - s.clock) }

/-- From every state, a step that answers a next state leaves MAPPER, ROM_BANKS, RAM_BANKS, BATTERY and the ROM image as
they were, and so does every byte write, under either mapper variant. (Stated: R62, R133.) -/
def Obligations.ConfigurationNeverChanges : Prop :=
  (∀ s t : State, step s = .next t → t.cart = s.cart) ∧
  (∀ (s : State) (x : Word) (v : Byte), (memWrite x v s).cart = s.cart)

/-- From every state with ram_enable = 0 (or with no external RAM): a step leaves XRAM as it was, whatever it runs or
services; and two machines that differ only in the contents of XRAM take steps that differ only there. (Derived:
20_memory section 5, R97, R135.) -/
def Obligations.DisabledRamIsIsolated : Prop :=
  (∀ s t : State, (s.ramEnable = false ∨ s.cart.ramBanks = 0) → step s = .next t → t.xram = s.xram) ∧
  (∀ (s t : State) (m : Memory), (s.ramEnable = false ∨ s.cart.ramBanks = 0) → step s = .next t →
    step { s with xram := m } = .next { t with xram := m })
end

