-- ==== Sys2Proof/Laws/Exec.lean ====
section
/-! SUPPORT. What an instruction does and how it is encoded depend on its generic form alone: two lemmas that turn a
question about 512 instructions into one about the forms of Machine/Forms.lean. -/

namespace Sys2Proof.Laws

open Sys2Proof Sys2Proof.Machine

/-- A property of every byte is a property of 256 numerals. -/
theorem forall_byte {p : Byte → Prop} (h : ∀ n, n < 256 → p (BitVec.ofNat 8 n)) (b : Byte) : p b := by
  have hb := h b.toNat b.isLt
  simpa using hb

/-- The effect of an instruction of the given form, by the shared operations. -/
def Form.run (f : Form) (s : State) : State :=
  match f with
  | .ldRegReg dst src => ldRegReg dst src s
  | .ldRegImm dst n => ldRegImm dst n s
  | .ldRegMem dst => ldRegMem dst s
  | .ldMemReg src => ldMemReg src s
  | .ldMemImm n => ldMemImm n s
  | .ldABc => loadA 8 (getBc s) s
  | .ldADe => loadA 8 (getDe s) s
  | .ldBcA => storeA 8 (getBc s) s
  | .ldDeA => storeA 8 (getDe s) s
  | .ldANn nn => loadA 16 nn s
  | .ldNnA nn => storeA 16 nn s
  | .ldhAC => loadA 8 (highPage s.c) s
  | .ldhCA => storeA 8 (highPage s.c) s
  | .ldhAN n => loadA 12 (highPage n) s
  | .ldhNA n => storeA 12 (highPage n) s
  | .ldADec => loadAMove (-1#16) s
  | .ldDecA => storeAMove (-1#16) s
  | .ldAInc => loadAMove 1#16 s
  | .ldIncA => storeAMove 1#16 s
  | .ldPairImm p nn => ldPairImm p nn s
  | .ldNnSp nn => ldNnSp nn s
  | .ldSpHl => ldSpHlOp s
  | .ldHlSp e => ldHlSp e s
  | .push p => pushPair p s
  | .pop p => popPair p s
  | .alu op src => aluOp op src s
  | .inc o => incOpnd o s
  | .dec o => decOpnd o s
  | .daa => daaOp s
  | .cpl => cplOp s
  | .scf => scfOp s
  | .ccf => ccfOp s
  | .addHl p => addHl p s
  | .incPair p => incPair p s
  | .decPair p => decPair p s
  | .addSp e => addSp e s
  | .rlca => accRot .rlc s
  | .rrca => accRot .rrc s
  | .rla => accRot .rl s
  | .rra => accRot .rr s
  | .rot op o => rotOpnd op o s
  | .bit k o => bitOpnd k o s
  | .res k o => resOpnd k o s
  | .set k o => setOpndBit k o s
  | .jp nn => jumpTo 16 nn s
  | .jpCond k nn => jpCond k nn s
  | .jpHl => jumpTo 4 (getHl s) s
  | .jr e => jumpRel e s
  | .jrCond k e => jrCond k e s
  | .call nn => callTo 24 nn s
  | .callCond k nn => callCond k nn s
  | .ret => withCost 16 (returnPc s)
  | .retCond k => retCond k s
  | .reti => withCost 16 (returnFromInterrupt s)
  | .rst k => callTo 16 (rstTarget k) s
  | .nop => withCost 4 s
  | .halt => haltOp s
  | .stop _ => stopOp s
  | .di => diOp s
  | .ei => eiOp s
  | .prefixCb => prefixOp s
  | .illegal op => raiseUndefined op s

/-- The encoding of an instruction of the given form, by the fields of 30_encoding R162 and the code tables R166 to R172. -/
def Form.bytes (f : Form) : List Byte :=
  match f with
  | .ldRegReg dst src => [1#2 ++ dst.code ++ src.code]
  | .ldRegImm dst n => [0#2 ++ dst.code ++ 6#3, n]
  | .ldRegMem dst => [1#2 ++ dst.code ++ 6#3]
  | .ldMemReg src => [1#2 ++ 6#3 ++ src.code]
  | .ldMemImm n => [0x36#8, n]
  | .ldABc => [0x0A#8]
  | .ldADe => [0x1A#8]
  | .ldBcA => [0x02#8]
  | .ldDeA => [0x12#8]
  | .ldANn nn => [0xFA#8, loByte nn, hiByte nn]
  | .ldNnA nn => [0xEA#8, loByte nn, hiByte nn]
  | .ldhAC => [0xF2#8]
  | .ldhCA => [0xE2#8]
  | .ldhAN n => [0xF0#8, n]
  | .ldhNA n => [0xE0#8, n]
  | .ldADec => [0x3A#8]
  | .ldDecA => [0x32#8]
  | .ldAInc => [0x2A#8]
  | .ldIncA => [0x22#8]
  | .ldPairImm p nn => [0#2 ++ p.code ++ 1#4, loByte nn, hiByte nn]
  | .ldNnSp nn => [0x08#8, loByte nn, hiByte nn]
  | .ldSpHl => [0xF9#8]
  | .ldHlSp e => [0xF8#8, e]
  | .push p => [3#2 ++ p.code ++ 5#4]
  | .pop p => [3#2 ++ p.code ++ 1#4]
  | .alu op (.reg r) => [2#2 ++ op.code ++ r.code]
  | .alu op .memHl => [2#2 ++ op.code ++ 6#3]
  | .alu op (.imm n) => [3#2 ++ op.code ++ 6#3, n]
  | .inc o => [0#2 ++ o.code ++ 4#3]
  | .dec o => [0#2 ++ o.code ++ 5#3]
  | .daa => [0x27#8]
  | .cpl => [0x2F#8]
  | .scf => [0x37#8]
  | .ccf => [0x3F#8]
  | .addHl p => [0#2 ++ p.code ++ 9#4]
  | .incPair p => [0#2 ++ p.code ++ 3#4]
  | .decPair p => [0#2 ++ p.code ++ 0xB#4]
  | .addSp e => [0xE8#8, e]
  | .rlca => [0x07#8]
  | .rrca => [0x0F#8]
  | .rla => [0x17#8]
  | .rra => [0x1F#8]
  | .rot op o => [0xCB#8, 0#2 ++ op.code ++ o.code]
  | .bit k o => [0xCB#8, 1#2 ++ k ++ o.code]
  | .res k o => [0xCB#8, 2#2 ++ k ++ o.code]
  | .set k o => [0xCB#8, 3#2 ++ k ++ o.code]
  | .jp nn => [0xC3#8, loByte nn, hiByte nn]
  | .jpCond k nn => [6#3 ++ k.code ++ 2#3, loByte nn, hiByte nn]
  | .jpHl => [0xE9#8]
  | .jr e => [0x18#8, e]
  | .jrCond k e => [1#3 ++ k.code ++ 0#3, e]
  | .call nn => [0xCD#8, loByte nn, hiByte nn]
  | .callCond k nn => [6#3 ++ k.code ++ 4#3, loByte nn, hiByte nn]
  | .ret => [0xC9#8]
  | .retCond k => [6#3 ++ k.code ++ 0#3]
  | .reti => [0xD9#8]
  | .rst k => [3#2 ++ k ++ 7#3]
  | .nop => [0x00#8]
  | .halt => [0x76#8]
  | .stop n => [0x10#8, n]
  | .di => [0xF3#8]
  | .ei => [0xFB#8]
  | .prefixCb => [0xCB#8]
  | .illegal op => [op]

/-- Every instruction completes, and its effect is that of its form. -/
theorem exec_eq_run (i : Instr) (s : State) : exec i s = .next (Form.run i.form s) := by
  cases i <;> rfl

/-- Every instruction's encoding is that of its form. -/
theorem encode_eq_bytes (i : Instr) : encode i = Form.bytes i.form := by
  cases i <;> rfl

end Sys2Proof.Laws
end

