-- ==== Sys2Proof/Laws/Flags.lean ====
section
/-! SUPPORT. The flag register: reading back each flag of a packed register, and its four low bits. -/

namespace Sys2Proof.Machine

open Sys2Proof

@[simp] theorem zOf_packF (z n h c : Bool) : zOf (packF z n h c) = z := by
  cases z <;> cases n <;> cases h <;> cases c <;> rfl

@[simp] theorem nOf_packF (z n h c : Bool) : nOf (packF z n h c) = n := by
  cases z <;> cases n <;> cases h <;> cases c <;> rfl

@[simp] theorem hOf_packF (z n h c : Bool) : hOf (packF z n h c) = h := by
  cases z <;> cases n <;> cases h <;> cases c <;> rfl

@[simp] theorem cOf_packF (z n h c : Bool) : cOf (packF z n h c) = c := by
  cases z <;> cases n <;> cases h <;> cases c <;> rfl

/-- A flag-setting instruction leaves `F[3:0] = 0` (10_state R37). -/
@[simp] theorem packF_low (z n h c : Bool) : packF z n h c &&& 0x0F#8 = 0#8 := by
  cases z <;> cases n <;> cases h <;> cases c <;> rfl

theorem aluResult_low (op : AluOp) (a v f : Byte) : (aluResult op a v f).2 &&& 0x0F#8 = 0#8 := by
  cases op <;> simp [aluResult, addBytes, subBytes]

theorem incByte_low (v f : Byte) : (incByte v f).2 &&& 0x0F#8 = 0#8 := by simp [incByte]

theorem decByte_low (v f : Byte) : (decByte v f).2 &&& 0x0F#8 = 0#8 := by simp [decByte]

theorem daaByte_low (a f : Byte) : (daaByte a f).2 &&& 0x0F#8 = 0#8 := by
  unfold daaByte
  split <;> simp

theorem addWords_low (x y : Word) (f : Byte) : (addWords x y f).2 &&& 0x0F#8 = 0#8 := by simp [addWords]

theorem spPlus_low (sp : Word) (u : Byte) : (spPlus sp u).2 &&& 0x0F#8 = 0#8 := by simp [spPlus]

/-- `POP AF` clears the four low bits (41_load16_stack R245). -/
theorem popFlags_low (v : Byte) : (v &&& 0xF0#8) &&& 0x0F#8 = 0#8 := by
  rw [BitVec.and_assoc]
  exact BitVec.and_zero

end Sys2Proof.Machine
end

