-- ==== Sys2Proof/Laws/Memory.lean ====
section
/-! SUPPORT. The laws of one byte storage: a write keeps the canonical form, a read after a write to the same index gives the
value written, a write leaves every other index alone, and equal contents are equal data. -/

namespace Sys2Proof

theorem Memory.wfFrom_mono {lo lo' size : Nat} (h : lo ≤ lo') :
    ∀ {m : Memory}, Memory.wfFrom lo' size m = true → Memory.wfFrom lo size m = true
  | [], _ => rfl
  | (j, v) :: rest, hm => by
    simp only [Memory.wfFrom, Bool.and_eq_true, decide_eq_true_eq] at hm ⊢
    exact ⟨⟨⟨by omega, hm.1.1.2⟩, hm.1.2⟩, hm.2⟩

theorem Memory.read_below {lo size : Nat} :
    ∀ {m : Memory} {i : Nat}, Memory.wfFrom lo size m = true → i < lo → m.read i = Memory.unlisted
  | [], _, _, _ => rfl
  | (j, v) :: rest, i, hm, hi => by
    simp only [Memory.wfFrom, Bool.and_eq_true, decide_eq_true_eq] at hm
    have hj : j ≠ i := by omega
    simp only [Memory.read, hj, if_false]
    exact Memory.read_below hm.2 (by omega)

theorem Memory.wfFrom_write {size : Nat} {i : Nat} {v : Byte} (hi : i < size) :
    ∀ {lo : Nat} {m : Memory}, lo ≤ i → Memory.wfFrom lo size m = true →
      Memory.wfFrom lo size (Memory.write m i v) = true
  | lo, [], hlo, _ => by
    by_cases hv : v = Memory.unlisted <;> simp [Memory.write, hv, Memory.wfFrom, hlo, hi]
  | lo, (j, w) :: rest, hlo, hm => by
    simp only [Memory.wfFrom, Bool.and_eq_true, decide_eq_true_eq] at hm
    obtain ⟨⟨⟨h1, h2⟩, h3⟩, h4⟩ := hm
    simp only [Memory.write]
    split
    · rename_i hij
      split
      · simp [Memory.wfFrom, h1, h2, h3, h4]
      · rename_i hv
        simp [Memory.wfFrom, h2, h3, h4, hv, hlo, hi]
        omega
    · rename_i hij
      split
      · rename_i hij'
        subst hij'
        split
        · exact Memory.wfFrom_mono (by omega) h4
        · rename_i hv
          simp [Memory.wfFrom, h1, h2, h4, hv]
      · rename_i hne
        simp only [Memory.wfFrom, h1, h2, decide_true, Bool.true_and]
        simpa [h3] using Memory.wfFrom_write hi (by omega : j + 1 ≤ i) h4

/-- A write keeps the canonical form. -/
theorem Memory.wf_write {size i : Nat} {m : Memory} (v : Byte) (hm : m.wf size = true) (hi : i < size) :
    (m.write i v).wf size = true := Memory.wfFrom_write hi (Nat.zero_le i) hm

/-- A write leaves every other index alone. -/
theorem Memory.read_write_other {i k : Nat} (h : k ≠ i) (v : Byte) :
    ∀ (m : Memory), (m.write i v).read k = m.read k
  | [] => by
    by_cases hv : v = Memory.unlisted
    · simp [Memory.write, hv]
    · simp [Memory.write, hv, Memory.read, Ne.symm h]
  | (j, w) :: rest => by
    simp only [Memory.write]
    split
    · split
      · rfl
      · simp [Memory.read, Ne.symm h]
    · split
      · rename_i hij
        subst hij
        split <;> simp [Memory.read, Ne.symm h]
      · simp only [Memory.read]
        rw [Memory.read_write_other h v rest]

theorem Memory.read_write_sameFrom {size : Nat} {i : Nat} {v : Byte} :
    ∀ {lo : Nat} {m : Memory}, Memory.wfFrom lo size m = true → (Memory.write m i v).read i = v
  | lo, [], _ => by
    by_cases hv : v = Memory.unlisted <;> simp [Memory.write, hv, Memory.read]
  | lo, (j, w) :: rest, hm => by
    simp only [Memory.wfFrom, Bool.and_eq_true, decide_eq_true_eq] at hm
    obtain ⟨⟨⟨h1, h2⟩, h3⟩, h4⟩ := hm
    simp only [Memory.write]
    split
    · rename_i hij
      split
      · rename_i hv
        have hj : j ≠ i := by omega
        simp only [Memory.read, hj, if_false, hv]
        exact Memory.read_below h4 (by omega)
      · simp [Memory.read]
    · split
      · rename_i hij'
        subst hij'
        split
        · rename_i hv
          rw [hv]
          exact Memory.read_below h4 (by omega)
        · simp [Memory.read]
      · rename_i hne
        simp only [Memory.read, Ne.symm hne, if_false]
        exact Memory.read_write_sameFrom h4

/-- A read after a write to the same index gives the value written. -/
theorem Memory.read_write_same {size : Nat} {m : Memory} (hm : m.wf size = true) (i : Nat) (v : Byte) :
    (m.write i v).read i = v := Memory.read_write_sameFrom hm

/-- Both at once. -/
theorem Memory.read_write {size : Nat} {m : Memory} (hm : m.wf size = true) (i k : Nat) (v : Byte) :
    (m.write i v).read k = if k = i then v else m.read k := by
  split
  · rename_i h
    subst h
    exact Memory.read_write_same hm k v
  · rename_i h
    exact Memory.read_write_other h v m

theorem Memory.eq_of_readFrom {size : Nat} :
    ∀ {lo : Nat} {m n : Memory}, Memory.wfFrom lo size m = true → Memory.wfFrom lo size n = true →
      (∀ i, m.read i = n.read i) → m = n
  | _, [], [], _, _, _ => rfl
  | lo, [], (j, v) :: rest, _, hn, h => by
    simp only [Memory.wfFrom, Bool.and_eq_true, decide_eq_true_eq] at hn
    have := h j
    simp only [Memory.read, if_true] at this
    exact absurd this.symm hn.1.2
  | lo, (j, v) :: rest, [], hm, _, h => by
    simp only [Memory.wfFrom, Bool.and_eq_true, decide_eq_true_eq] at hm
    have := h j
    simp only [Memory.read, if_true] at this
    exact absurd this hm.1.2
  | lo, (j, v) :: rest, (k, w) :: rest', hm, hn, h => by
    have hm' := hm
    have hn' := hn
    simp only [Memory.wfFrom, Bool.and_eq_true, decide_eq_true_eq] at hm' hn'
    have hjk : j = k := by
      rcases Nat.lt_trichotomy j k with hlt | heq | hgt
      · have := h j
        have hne : k ≠ j := by omega
        simp only [Memory.read, if_true, hne, if_false] at this
        rw [Memory.read_below hn'.2 (by omega)] at this
        exact absurd this hm'.1.2
      · exact heq
      · have := h k
        have hne : j ≠ k := by omega
        simp only [Memory.read, if_true, hne, if_false] at this
        rw [Memory.read_below hm'.2 (by omega)] at this
        exact absurd this.symm hn'.1.2
    subst hjk
    have hvw : v = w := by simpa [Memory.read] using h j
    subst hvw
    have : rest = rest' := by
      refine Memory.eq_of_readFrom hm'.2 hn'.2 fun i => ?_
      by_cases hi : j = i
      · subst hi
        rw [Memory.read_below hm'.2 (by omega), Memory.read_below hn'.2 (by omega)]
      · simpa [Memory.read, hi] using h i
    rw [this]

/-- Storages in canonical form with the same contents are equal. -/
theorem Memory.eq_of_read {size : Nat} {m n : Memory} (hm : m.wf size = true) (hn : n.wf size = true)
    (h : ∀ i, m.read i = n.read i) : m = n := Memory.eq_of_readFrom hm hn h

theorem Memory.wfFrom_ofBytes : ∀ (i : Nat) (bs : List Byte) {lo size : Nat}, lo ≤ i → i + bs.length ≤ size →
    Memory.wfFrom lo size (Memory.ofBytes i bs) = true
  | _, [], _, _, _, _ => rfl
  | i, v :: rest, lo, size, hlo, hs => by
    simp only [List.length_cons] at hs
    simp only [Memory.ofBytes]
    split
    · exact Memory.wfFrom_ofBytes (i + 1) rest (by omega) (by omega)
    · rename_i hv
      simp only [Memory.wfFrom, hv, ne_eq, not_false_eq_true, decide_true, Bool.and_true, Bool.and_eq_true,
        decide_eq_true_eq]
      exact ⟨⟨hlo, by omega⟩, Memory.wfFrom_ofBytes (i + 1) rest (by omega) (by omega)⟩

/-- The storage a byte list fills is in canonical form. -/
theorem Memory.wf_ofBytes {bs : List Byte} {size : Nat} (h : bs.length ≤ size) :
    (Memory.ofBytes 0 bs).wf size = true := Memory.wfFrom_ofBytes 0 bs (Nat.le_refl 0) (by omega)

theorem Memory.read_ofBytes_below : ∀ (i : Nat) (bs : List Byte) {k : Nat}, k < i →
    (Memory.ofBytes i bs).read k = Memory.unlisted
  | _, [], _, _ => rfl
  | i, v :: rest, k, hk => by
    simp only [Memory.ofBytes]
    split
    · exact Memory.read_ofBytes_below (i + 1) rest (by omega)
    · have : i ≠ k := by omega
      simp only [Memory.read, this, if_false]
      exact Memory.read_ofBytes_below (i + 1) rest (by omega)

/-- The contents of the storage a byte list fills from index `i` on. -/
theorem Memory.read_ofBytes : ∀ (i : Nat) (bs : List Byte) (k : Nat),
    (Memory.ofBytes i bs).read (i + k) = bs.getD k Memory.unlisted
  | _, [], _ => rfl
  | i, v :: rest, k => by
    simp only [Memory.ofBytes]
    cases k with
    | zero =>
      split
      · rename_i hv
        simpa [hv] using Memory.read_ofBytes_below (i + 1) rest (by omega : i + 0 < i + 1)
      · simp [Memory.read]
    | succ k =>
      have ih := Memory.read_ofBytes (i + 1) rest k
      have hk : i + 1 + k = i + (k + 1) := by omega
      rw [hk] at ih
      split
      · simpa using ih
      · have : i ≠ i + (k + 1) := by omega
        simpa [Memory.read, this] using ih

end Sys2Proof
end

