-- ==== Sys2Proof/Laws/PerInstr.lean ====
section
/-! SUPPORT. Facts about every instruction as syntax, one lemma per constructor. The family `Encoding`: an instruction's
encoding is as long as its first byte says (30_encoding R160). -/

namespace Sys2Proof.Laws.Encoding

open Sys2Proof

/-- The encoding has at least one byte and, but for the prefix byte alone (log entry 6), the length its first byte
determines. -/
def Statement (i : Instr) : Prop :=
  1 ≤ (encode i).length ∧ (i ≠ .prefixCb → (encode i).length = opLength ((encode i).headD 0x00#8))

theorem statement_of {i : Instr} {b : Byte} {rest : List Byte} (h : encode i = b :: rest)
    (hl : rest.length + 1 = opLength b) : Statement i := by
  refine ⟨by rw [h]; exact Nat.le_add_left 1 _, fun _ => ?_⟩
  rw [h]; exact hl

theorem prefixCb : Statement .prefixCb := ⟨Nat.le_refl 1, fun h => absurd rfl h⟩

theorem nop : Statement .nop := statement_of rfl rfl
theorem ldBcNn (nn : Word) : Statement (.ldBcNn nn) := statement_of rfl rfl
theorem ldMemBcA : Statement .ldMemBcA := statement_of rfl rfl
theorem incBc : Statement .incBc := statement_of rfl rfl
theorem incB : Statement .incB := statement_of rfl rfl
theorem decB : Statement .decB := statement_of rfl rfl
theorem ldBN (n : Byte) : Statement (.ldBN n) := statement_of rfl rfl
theorem rlca : Statement .rlca := statement_of rfl rfl
theorem ldMemNnSp (nn : Word) : Statement (.ldMemNnSp nn) := statement_of rfl rfl
theorem addHlBc : Statement .addHlBc := statement_of rfl rfl
theorem ldAMemBc : Statement .ldAMemBc := statement_of rfl rfl
theorem decBc : Statement .decBc := statement_of rfl rfl
theorem incC : Statement .incC := statement_of rfl rfl
theorem decC : Statement .decC := statement_of rfl rfl
theorem ldCN (n : Byte) : Statement (.ldCN n) := statement_of rfl rfl
theorem rrca : Statement .rrca := statement_of rfl rfl
theorem stop (n : Byte) : Statement (.stop n) := statement_of rfl rfl
theorem ldDeNn (nn : Word) : Statement (.ldDeNn nn) := statement_of rfl rfl
theorem ldMemDeA : Statement .ldMemDeA := statement_of rfl rfl
theorem incDe : Statement .incDe := statement_of rfl rfl
theorem incD : Statement .incD := statement_of rfl rfl
theorem decD : Statement .decD := statement_of rfl rfl
theorem ldDN (n : Byte) : Statement (.ldDN n) := statement_of rfl rfl
theorem rla : Statement .rla := statement_of rfl rfl
theorem jrE (e : Byte) : Statement (.jrE e) := statement_of rfl rfl
theorem addHlDe : Statement .addHlDe := statement_of rfl rfl
theorem ldAMemDe : Statement .ldAMemDe := statement_of rfl rfl
theorem decDe : Statement .decDe := statement_of rfl rfl
theorem incE : Statement .incE := statement_of rfl rfl
theorem decE : Statement .decE := statement_of rfl rfl
theorem ldEN (n : Byte) : Statement (.ldEN n) := statement_of rfl rfl
theorem rra : Statement .rra := statement_of rfl rfl
theorem jrNzE (e : Byte) : Statement (.jrNzE e) := statement_of rfl rfl
theorem ldHlNn (nn : Word) : Statement (.ldHlNn nn) := statement_of rfl rfl
theorem ldMemHlIncA : Statement .ldMemHlIncA := statement_of rfl rfl
theorem incHl : Statement .incHl := statement_of rfl rfl
theorem incH : Statement .incH := statement_of rfl rfl
theorem decH : Statement .decH := statement_of rfl rfl
theorem ldHN (n : Byte) : Statement (.ldHN n) := statement_of rfl rfl
theorem daa : Statement .daa := statement_of rfl rfl
theorem jrZE (e : Byte) : Statement (.jrZE e) := statement_of rfl rfl
theorem addHlHl : Statement .addHlHl := statement_of rfl rfl
theorem ldAMemHlInc : Statement .ldAMemHlInc := statement_of rfl rfl
theorem decHl : Statement .decHl := statement_of rfl rfl
theorem incL : Statement .incL := statement_of rfl rfl
theorem decL : Statement .decL := statement_of rfl rfl
theorem ldLN (n : Byte) : Statement (.ldLN n) := statement_of rfl rfl
theorem cpl : Statement .cpl := statement_of rfl rfl
theorem jrNcE (e : Byte) : Statement (.jrNcE e) := statement_of rfl rfl
theorem ldSpNn (nn : Word) : Statement (.ldSpNn nn) := statement_of rfl rfl
theorem ldMemHlDecA : Statement .ldMemHlDecA := statement_of rfl rfl
theorem incSp : Statement .incSp := statement_of rfl rfl
theorem incMemHl : Statement .incMemHl := statement_of rfl rfl
theorem decMemHl : Statement .decMemHl := statement_of rfl rfl
theorem ldMemHlN (n : Byte) : Statement (.ldMemHlN n) := statement_of rfl rfl
theorem scf : Statement .scf := statement_of rfl rfl
theorem jrCE (e : Byte) : Statement (.jrCE e) := statement_of rfl rfl
theorem addHlSp : Statement .addHlSp := statement_of rfl rfl
theorem ldAMemHlDec : Statement .ldAMemHlDec := statement_of rfl rfl
theorem decSp : Statement .decSp := statement_of rfl rfl
theorem incA : Statement .incA := statement_of rfl rfl
theorem decA : Statement .decA := statement_of rfl rfl
theorem ldAN (n : Byte) : Statement (.ldAN n) := statement_of rfl rfl
theorem ccf : Statement .ccf := statement_of rfl rfl
theorem ldBB : Statement .ldBB := statement_of rfl rfl
theorem ldBC : Statement .ldBC := statement_of rfl rfl
theorem ldBD : Statement .ldBD := statement_of rfl rfl
theorem ldBE : Statement .ldBE := statement_of rfl rfl
theorem ldBH : Statement .ldBH := statement_of rfl rfl
theorem ldBL : Statement .ldBL := statement_of rfl rfl
theorem ldBMemHl : Statement .ldBMemHl := statement_of rfl rfl
theorem ldBA : Statement .ldBA := statement_of rfl rfl
theorem ldCB : Statement .ldCB := statement_of rfl rfl
theorem ldCC : Statement .ldCC := statement_of rfl rfl
theorem ldCD : Statement .ldCD := statement_of rfl rfl
theorem ldCE : Statement .ldCE := statement_of rfl rfl
theorem ldCH : Statement .ldCH := statement_of rfl rfl
theorem ldCL : Statement .ldCL := statement_of rfl rfl
theorem ldCMemHl : Statement .ldCMemHl := statement_of rfl rfl
theorem ldCA : Statement .ldCA := statement_of rfl rfl
theorem ldDB : Statement .ldDB := statement_of rfl rfl
theorem ldDC : Statement .ldDC := statement_of rfl rfl
theorem ldDD : Statement .ldDD := statement_of rfl rfl
theorem ldDE : Statement .ldDE := statement_of rfl rfl
theorem ldDH : Statement .ldDH := statement_of rfl rfl
theorem ldDL : Statement .ldDL := statement_of rfl rfl
theorem ldDMemHl : Statement .ldDMemHl := statement_of rfl rfl
theorem ldDA : Statement .ldDA := statement_of rfl rfl
theorem ldEB : Statement .ldEB := statement_of rfl rfl
theorem ldEC : Statement .ldEC := statement_of rfl rfl
theorem ldED : Statement .ldED := statement_of rfl rfl
theorem ldEE : Statement .ldEE := statement_of rfl rfl
theorem ldEH : Statement .ldEH := statement_of rfl rfl
theorem ldEL : Statement .ldEL := statement_of rfl rfl
theorem ldEMemHl : Statement .ldEMemHl := statement_of rfl rfl
theorem ldEA : Statement .ldEA := statement_of rfl rfl
theorem ldHB : Statement .ldHB := statement_of rfl rfl
theorem ldHC : Statement .ldHC := statement_of rfl rfl
theorem ldHD : Statement .ldHD := statement_of rfl rfl
theorem ldHE : Statement .ldHE := statement_of rfl rfl
theorem ldHH : Statement .ldHH := statement_of rfl rfl
theorem ldHL : Statement .ldHL := statement_of rfl rfl
theorem ldHMemHl : Statement .ldHMemHl := statement_of rfl rfl
theorem ldHA : Statement .ldHA := statement_of rfl rfl
theorem ldLB : Statement .ldLB := statement_of rfl rfl
theorem ldLC : Statement .ldLC := statement_of rfl rfl
theorem ldLD : Statement .ldLD := statement_of rfl rfl
theorem ldLE : Statement .ldLE := statement_of rfl rfl
theorem ldLH : Statement .ldLH := statement_of rfl rfl
theorem ldLL : Statement .ldLL := statement_of rfl rfl
theorem ldLMemHl : Statement .ldLMemHl := statement_of rfl rfl
theorem ldLA : Statement .ldLA := statement_of rfl rfl
theorem ldMemHlB : Statement .ldMemHlB := statement_of rfl rfl
theorem ldMemHlC : Statement .ldMemHlC := statement_of rfl rfl
theorem ldMemHlD : Statement .ldMemHlD := statement_of rfl rfl
theorem ldMemHlE : Statement .ldMemHlE := statement_of rfl rfl
theorem ldMemHlH : Statement .ldMemHlH := statement_of rfl rfl
theorem ldMemHlL : Statement .ldMemHlL := statement_of rfl rfl
theorem halt : Statement .halt := statement_of rfl rfl
theorem ldMemHlA : Statement .ldMemHlA := statement_of rfl rfl
theorem ldAB : Statement .ldAB := statement_of rfl rfl
theorem ldAC : Statement .ldAC := statement_of rfl rfl
theorem ldAD : Statement .ldAD := statement_of rfl rfl
theorem ldAE : Statement .ldAE := statement_of rfl rfl
theorem ldAH : Statement .ldAH := statement_of rfl rfl
theorem ldAL : Statement .ldAL := statement_of rfl rfl
theorem ldAMemHl : Statement .ldAMemHl := statement_of rfl rfl
theorem ldAA : Statement .ldAA := statement_of rfl rfl
theorem addAB : Statement .addAB := statement_of rfl rfl
theorem addAC : Statement .addAC := statement_of rfl rfl
theorem addAD : Statement .addAD := statement_of rfl rfl
theorem addAE : Statement .addAE := statement_of rfl rfl
theorem addAH : Statement .addAH := statement_of rfl rfl
theorem addAL : Statement .addAL := statement_of rfl rfl
theorem addAMemHl : Statement .addAMemHl := statement_of rfl rfl
theorem addAA : Statement .addAA := statement_of rfl rfl
theorem adcAB : Statement .adcAB := statement_of rfl rfl
theorem adcAC : Statement .adcAC := statement_of rfl rfl
theorem adcAD : Statement .adcAD := statement_of rfl rfl
theorem adcAE : Statement .adcAE := statement_of rfl rfl
theorem adcAH : Statement .adcAH := statement_of rfl rfl
theorem adcAL : Statement .adcAL := statement_of rfl rfl
theorem adcAMemHl : Statement .adcAMemHl := statement_of rfl rfl
theorem adcAA : Statement .adcAA := statement_of rfl rfl
theorem subB : Statement .subB := statement_of rfl rfl
theorem subC : Statement .subC := statement_of rfl rfl
theorem subD : Statement .subD := statement_of rfl rfl
theorem subE : Statement .subE := statement_of rfl rfl
theorem subH : Statement .subH := statement_of rfl rfl
theorem subL : Statement .subL := statement_of rfl rfl
theorem subMemHl : Statement .subMemHl := statement_of rfl rfl
theorem subA : Statement .subA := statement_of rfl rfl
theorem sbcAB : Statement .sbcAB := statement_of rfl rfl
theorem sbcAC : Statement .sbcAC := statement_of rfl rfl
theorem sbcAD : Statement .sbcAD := statement_of rfl rfl
theorem sbcAE : Statement .sbcAE := statement_of rfl rfl
theorem sbcAH : Statement .sbcAH := statement_of rfl rfl
theorem sbcAL : Statement .sbcAL := statement_of rfl rfl
theorem sbcAMemHl : Statement .sbcAMemHl := statement_of rfl rfl
theorem sbcAA : Statement .sbcAA := statement_of rfl rfl
theorem andB : Statement .andB := statement_of rfl rfl
theorem andC : Statement .andC := statement_of rfl rfl
theorem andD : Statement .andD := statement_of rfl rfl
theorem andE : Statement .andE := statement_of rfl rfl
theorem andH : Statement .andH := statement_of rfl rfl
theorem andL : Statement .andL := statement_of rfl rfl
theorem andMemHl : Statement .andMemHl := statement_of rfl rfl
theorem andA : Statement .andA := statement_of rfl rfl
theorem xorB : Statement .xorB := statement_of rfl rfl
theorem xorC : Statement .xorC := statement_of rfl rfl
theorem xorD : Statement .xorD := statement_of rfl rfl
theorem xorE : Statement .xorE := statement_of rfl rfl
theorem xorH : Statement .xorH := statement_of rfl rfl
theorem xorL : Statement .xorL := statement_of rfl rfl
theorem xorMemHl : Statement .xorMemHl := statement_of rfl rfl
theorem xorA : Statement .xorA := statement_of rfl rfl
theorem orB : Statement .orB := statement_of rfl rfl
theorem orC : Statement .orC := statement_of rfl rfl
theorem orD : Statement .orD := statement_of rfl rfl
theorem orE : Statement .orE := statement_of rfl rfl
theorem orH : Statement .orH := statement_of rfl rfl
theorem orL : Statement .orL := statement_of rfl rfl
theorem orMemHl : Statement .orMemHl := statement_of rfl rfl
theorem orA : Statement .orA := statement_of rfl rfl
theorem cpB : Statement .cpB := statement_of rfl rfl
theorem cpC : Statement .cpC := statement_of rfl rfl
theorem cpD : Statement .cpD := statement_of rfl rfl
theorem cpE : Statement .cpE := statement_of rfl rfl
theorem cpH : Statement .cpH := statement_of rfl rfl
theorem cpL : Statement .cpL := statement_of rfl rfl
theorem cpMemHl : Statement .cpMemHl := statement_of rfl rfl
theorem cpA : Statement .cpA := statement_of rfl rfl
theorem retNz : Statement .retNz := statement_of rfl rfl
theorem popBc : Statement .popBc := statement_of rfl rfl
theorem jpNzNn (nn : Word) : Statement (.jpNzNn nn) := statement_of rfl rfl
theorem jpNn (nn : Word) : Statement (.jpNn nn) := statement_of rfl rfl
theorem callNzNn (nn : Word) : Statement (.callNzNn nn) := statement_of rfl rfl
theorem pushBc : Statement .pushBc := statement_of rfl rfl
theorem addAN (n : Byte) : Statement (.addAN n) := statement_of rfl rfl
theorem rst00 : Statement .rst00 := statement_of rfl rfl
theorem retZ : Statement .retZ := statement_of rfl rfl
theorem ret : Statement .ret := statement_of rfl rfl
theorem jpZNn (nn : Word) : Statement (.jpZNn nn) := statement_of rfl rfl
theorem callZNn (nn : Word) : Statement (.callZNn nn) := statement_of rfl rfl
theorem callNn (nn : Word) : Statement (.callNn nn) := statement_of rfl rfl
theorem adcAN (n : Byte) : Statement (.adcAN n) := statement_of rfl rfl
theorem rst08 : Statement .rst08 := statement_of rfl rfl
theorem retNc : Statement .retNc := statement_of rfl rfl
theorem popDe : Statement .popDe := statement_of rfl rfl
theorem jpNcNn (nn : Word) : Statement (.jpNcNn nn) := statement_of rfl rfl
theorem illegalD3 : Statement .illegalD3 := statement_of rfl rfl
theorem callNcNn (nn : Word) : Statement (.callNcNn nn) := statement_of rfl rfl
theorem pushDe : Statement .pushDe := statement_of rfl rfl
theorem subN (n : Byte) : Statement (.subN n) := statement_of rfl rfl
theorem rst10 : Statement .rst10 := statement_of rfl rfl
theorem retC : Statement .retC := statement_of rfl rfl
theorem reti : Statement .reti := statement_of rfl rfl
theorem jpCNn (nn : Word) : Statement (.jpCNn nn) := statement_of rfl rfl
theorem illegalDB : Statement .illegalDB := statement_of rfl rfl
theorem callCNn (nn : Word) : Statement (.callCNn nn) := statement_of rfl rfl
theorem illegalDD : Statement .illegalDD := statement_of rfl rfl
theorem sbcAN (n : Byte) : Statement (.sbcAN n) := statement_of rfl rfl
theorem rst18 : Statement .rst18 := statement_of rfl rfl
theorem ldhMemNA (n : Byte) : Statement (.ldhMemNA n) := statement_of rfl rfl
theorem popHl : Statement .popHl := statement_of rfl rfl
theorem ldhMemCA : Statement .ldhMemCA := statement_of rfl rfl
theorem illegalE3 : Statement .illegalE3 := statement_of rfl rfl
theorem illegalE4 : Statement .illegalE4 := statement_of rfl rfl
theorem pushHl : Statement .pushHl := statement_of rfl rfl
theorem andN (n : Byte) : Statement (.andN n) := statement_of rfl rfl
theorem rst20 : Statement .rst20 := statement_of rfl rfl
theorem addSpE (e : Byte) : Statement (.addSpE e) := statement_of rfl rfl
theorem jpHl : Statement .jpHl := statement_of rfl rfl
theorem ldMemNnA (nn : Word) : Statement (.ldMemNnA nn) := statement_of rfl rfl
theorem illegalEB : Statement .illegalEB := statement_of rfl rfl
theorem illegalEC : Statement .illegalEC := statement_of rfl rfl
theorem illegalED : Statement .illegalED := statement_of rfl rfl
theorem xorN (n : Byte) : Statement (.xorN n) := statement_of rfl rfl
theorem rst28 : Statement .rst28 := statement_of rfl rfl
theorem ldhAMemN (n : Byte) : Statement (.ldhAMemN n) := statement_of rfl rfl
theorem popAf : Statement .popAf := statement_of rfl rfl
theorem ldhAMemC : Statement .ldhAMemC := statement_of rfl rfl
theorem di : Statement .di := statement_of rfl rfl
theorem illegalF4 : Statement .illegalF4 := statement_of rfl rfl
theorem pushAf : Statement .pushAf := statement_of rfl rfl
theorem orN (n : Byte) : Statement (.orN n) := statement_of rfl rfl
theorem rst30 : Statement .rst30 := statement_of rfl rfl
theorem ldHlSpE (e : Byte) : Statement (.ldHlSpE e) := statement_of rfl rfl
theorem ldSpHl : Statement .ldSpHl := statement_of rfl rfl
theorem ldAMemNn (nn : Word) : Statement (.ldAMemNn nn) := statement_of rfl rfl
theorem ei : Statement .ei := statement_of rfl rfl
theorem illegalFC : Statement .illegalFC := statement_of rfl rfl
theorem illegalFD : Statement .illegalFD := statement_of rfl rfl
theorem cpN (n : Byte) : Statement (.cpN n) := statement_of rfl rfl
theorem rst38 : Statement .rst38 := statement_of rfl rfl
theorem rlcB : Statement .rlcB := statement_of rfl rfl
theorem rlcC : Statement .rlcC := statement_of rfl rfl
theorem rlcD : Statement .rlcD := statement_of rfl rfl
theorem rlcE : Statement .rlcE := statement_of rfl rfl
theorem rlcH : Statement .rlcH := statement_of rfl rfl
theorem rlcL : Statement .rlcL := statement_of rfl rfl
theorem rlcMemHl : Statement .rlcMemHl := statement_of rfl rfl
theorem rlcA : Statement .rlcA := statement_of rfl rfl
theorem rrcB : Statement .rrcB := statement_of rfl rfl
theorem rrcC : Statement .rrcC := statement_of rfl rfl
theorem rrcD : Statement .rrcD := statement_of rfl rfl
theorem rrcE : Statement .rrcE := statement_of rfl rfl
theorem rrcH : Statement .rrcH := statement_of rfl rfl
theorem rrcL : Statement .rrcL := statement_of rfl rfl
theorem rrcMemHl : Statement .rrcMemHl := statement_of rfl rfl
theorem rrcA : Statement .rrcA := statement_of rfl rfl
theorem rlB : Statement .rlB := statement_of rfl rfl
theorem rlC : Statement .rlC := statement_of rfl rfl
theorem rlD : Statement .rlD := statement_of rfl rfl
theorem rlE : Statement .rlE := statement_of rfl rfl
theorem rlH : Statement .rlH := statement_of rfl rfl
theorem rlL : Statement .rlL := statement_of rfl rfl
theorem rlMemHl : Statement .rlMemHl := statement_of rfl rfl
theorem rlA : Statement .rlA := statement_of rfl rfl
theorem rrB : Statement .rrB := statement_of rfl rfl
theorem rrC : Statement .rrC := statement_of rfl rfl
theorem rrD : Statement .rrD := statement_of rfl rfl
theorem rrE : Statement .rrE := statement_of rfl rfl
theorem rrH : Statement .rrH := statement_of rfl rfl
theorem rrL : Statement .rrL := statement_of rfl rfl
theorem rrMemHl : Statement .rrMemHl := statement_of rfl rfl
theorem rrA : Statement .rrA := statement_of rfl rfl
theorem slaB : Statement .slaB := statement_of rfl rfl
theorem slaC : Statement .slaC := statement_of rfl rfl
theorem slaD : Statement .slaD := statement_of rfl rfl
theorem slaE : Statement .slaE := statement_of rfl rfl
theorem slaH : Statement .slaH := statement_of rfl rfl
theorem slaL : Statement .slaL := statement_of rfl rfl
theorem slaMemHl : Statement .slaMemHl := statement_of rfl rfl
theorem slaA : Statement .slaA := statement_of rfl rfl
theorem sraB : Statement .sraB := statement_of rfl rfl
theorem sraC : Statement .sraC := statement_of rfl rfl
theorem sraD : Statement .sraD := statement_of rfl rfl
theorem sraE : Statement .sraE := statement_of rfl rfl
theorem sraH : Statement .sraH := statement_of rfl rfl
theorem sraL : Statement .sraL := statement_of rfl rfl
theorem sraMemHl : Statement .sraMemHl := statement_of rfl rfl
theorem sraA : Statement .sraA := statement_of rfl rfl
theorem swapB : Statement .swapB := statement_of rfl rfl
theorem swapC : Statement .swapC := statement_of rfl rfl
theorem swapD : Statement .swapD := statement_of rfl rfl
theorem swapE : Statement .swapE := statement_of rfl rfl
theorem swapH : Statement .swapH := statement_of rfl rfl
theorem swapL : Statement .swapL := statement_of rfl rfl
theorem swapMemHl : Statement .swapMemHl := statement_of rfl rfl
theorem swapA : Statement .swapA := statement_of rfl rfl
theorem srlB : Statement .srlB := statement_of rfl rfl
theorem srlC : Statement .srlC := statement_of rfl rfl
theorem srlD : Statement .srlD := statement_of rfl rfl
theorem srlE : Statement .srlE := statement_of rfl rfl
theorem srlH : Statement .srlH := statement_of rfl rfl
theorem srlL : Statement .srlL := statement_of rfl rfl
theorem srlMemHl : Statement .srlMemHl := statement_of rfl rfl
theorem srlA : Statement .srlA := statement_of rfl rfl
theorem bit0B : Statement .bit0B := statement_of rfl rfl
theorem bit0C : Statement .bit0C := statement_of rfl rfl
theorem bit0D : Statement .bit0D := statement_of rfl rfl
theorem bit0E : Statement .bit0E := statement_of rfl rfl
theorem bit0H : Statement .bit0H := statement_of rfl rfl
theorem bit0L : Statement .bit0L := statement_of rfl rfl
theorem bit0MemHl : Statement .bit0MemHl := statement_of rfl rfl
theorem bit0A : Statement .bit0A := statement_of rfl rfl
theorem bit1B : Statement .bit1B := statement_of rfl rfl
theorem bit1C : Statement .bit1C := statement_of rfl rfl
theorem bit1D : Statement .bit1D := statement_of rfl rfl
theorem bit1E : Statement .bit1E := statement_of rfl rfl
theorem bit1H : Statement .bit1H := statement_of rfl rfl
theorem bit1L : Statement .bit1L := statement_of rfl rfl
theorem bit1MemHl : Statement .bit1MemHl := statement_of rfl rfl
theorem bit1A : Statement .bit1A := statement_of rfl rfl
theorem bit2B : Statement .bit2B := statement_of rfl rfl
theorem bit2C : Statement .bit2C := statement_of rfl rfl
theorem bit2D : Statement .bit2D := statement_of rfl rfl
theorem bit2E : Statement .bit2E := statement_of rfl rfl
theorem bit2H : Statement .bit2H := statement_of rfl rfl
theorem bit2L : Statement .bit2L := statement_of rfl rfl
theorem bit2MemHl : Statement .bit2MemHl := statement_of rfl rfl
theorem bit2A : Statement .bit2A := statement_of rfl rfl
theorem bit3B : Statement .bit3B := statement_of rfl rfl
theorem bit3C : Statement .bit3C := statement_of rfl rfl
theorem bit3D : Statement .bit3D := statement_of rfl rfl
theorem bit3E : Statement .bit3E := statement_of rfl rfl
theorem bit3H : Statement .bit3H := statement_of rfl rfl
theorem bit3L : Statement .bit3L := statement_of rfl rfl
theorem bit3MemHl : Statement .bit3MemHl := statement_of rfl rfl
theorem bit3A : Statement .bit3A := statement_of rfl rfl
theorem bit4B : Statement .bit4B := statement_of rfl rfl
theorem bit4C : Statement .bit4C := statement_of rfl rfl
theorem bit4D : Statement .bit4D := statement_of rfl rfl
theorem bit4E : Statement .bit4E := statement_of rfl rfl
theorem bit4H : Statement .bit4H := statement_of rfl rfl
theorem bit4L : Statement .bit4L := statement_of rfl rfl
theorem bit4MemHl : Statement .bit4MemHl := statement_of rfl rfl
theorem bit4A : Statement .bit4A := statement_of rfl rfl
theorem bit5B : Statement .bit5B := statement_of rfl rfl
theorem bit5C : Statement .bit5C := statement_of rfl rfl
theorem bit5D : Statement .bit5D := statement_of rfl rfl
theorem bit5E : Statement .bit5E := statement_of rfl rfl
theorem bit5H : Statement .bit5H := statement_of rfl rfl
theorem bit5L : Statement .bit5L := statement_of rfl rfl
theorem bit5MemHl : Statement .bit5MemHl := statement_of rfl rfl
theorem bit5A : Statement .bit5A := statement_of rfl rfl
theorem bit6B : Statement .bit6B := statement_of rfl rfl
theorem bit6C : Statement .bit6C := statement_of rfl rfl
theorem bit6D : Statement .bit6D := statement_of rfl rfl
theorem bit6E : Statement .bit6E := statement_of rfl rfl
theorem bit6H : Statement .bit6H := statement_of rfl rfl
theorem bit6L : Statement .bit6L := statement_of rfl rfl
theorem bit6MemHl : Statement .bit6MemHl := statement_of rfl rfl
theorem bit6A : Statement .bit6A := statement_of rfl rfl
theorem bit7B : Statement .bit7B := statement_of rfl rfl
theorem bit7C : Statement .bit7C := statement_of rfl rfl
theorem bit7D : Statement .bit7D := statement_of rfl rfl
theorem bit7E : Statement .bit7E := statement_of rfl rfl
theorem bit7H : Statement .bit7H := statement_of rfl rfl
theorem bit7L : Statement .bit7L := statement_of rfl rfl
theorem bit7MemHl : Statement .bit7MemHl := statement_of rfl rfl
theorem bit7A : Statement .bit7A := statement_of rfl rfl
theorem res0B : Statement .res0B := statement_of rfl rfl
theorem res0C : Statement .res0C := statement_of rfl rfl
theorem res0D : Statement .res0D := statement_of rfl rfl
theorem res0E : Statement .res0E := statement_of rfl rfl
theorem res0H : Statement .res0H := statement_of rfl rfl
theorem res0L : Statement .res0L := statement_of rfl rfl
theorem res0MemHl : Statement .res0MemHl := statement_of rfl rfl
theorem res0A : Statement .res0A := statement_of rfl rfl
theorem res1B : Statement .res1B := statement_of rfl rfl
theorem res1C : Statement .res1C := statement_of rfl rfl
theorem res1D : Statement .res1D := statement_of rfl rfl
theorem res1E : Statement .res1E := statement_of rfl rfl
theorem res1H : Statement .res1H := statement_of rfl rfl
theorem res1L : Statement .res1L := statement_of rfl rfl
theorem res1MemHl : Statement .res1MemHl := statement_of rfl rfl
theorem res1A : Statement .res1A := statement_of rfl rfl
theorem res2B : Statement .res2B := statement_of rfl rfl
theorem res2C : Statement .res2C := statement_of rfl rfl
theorem res2D : Statement .res2D := statement_of rfl rfl
theorem res2E : Statement .res2E := statement_of rfl rfl
theorem res2H : Statement .res2H := statement_of rfl rfl
theorem res2L : Statement .res2L := statement_of rfl rfl
theorem res2MemHl : Statement .res2MemHl := statement_of rfl rfl
theorem res2A : Statement .res2A := statement_of rfl rfl
theorem res3B : Statement .res3B := statement_of rfl rfl
theorem res3C : Statement .res3C := statement_of rfl rfl
theorem res3D : Statement .res3D := statement_of rfl rfl
theorem res3E : Statement .res3E := statement_of rfl rfl
theorem res3H : Statement .res3H := statement_of rfl rfl
theorem res3L : Statement .res3L := statement_of rfl rfl
theorem res3MemHl : Statement .res3MemHl := statement_of rfl rfl
theorem res3A : Statement .res3A := statement_of rfl rfl
theorem res4B : Statement .res4B := statement_of rfl rfl
theorem res4C : Statement .res4C := statement_of rfl rfl
theorem res4D : Statement .res4D := statement_of rfl rfl
theorem res4E : Statement .res4E := statement_of rfl rfl
theorem res4H : Statement .res4H := statement_of rfl rfl
theorem res4L : Statement .res4L := statement_of rfl rfl
theorem res4MemHl : Statement .res4MemHl := statement_of rfl rfl
theorem res4A : Statement .res4A := statement_of rfl rfl
theorem res5B : Statement .res5B := statement_of rfl rfl
theorem res5C : Statement .res5C := statement_of rfl rfl
theorem res5D : Statement .res5D := statement_of rfl rfl
theorem res5E : Statement .res5E := statement_of rfl rfl
theorem res5H : Statement .res5H := statement_of rfl rfl
theorem res5L : Statement .res5L := statement_of rfl rfl
theorem res5MemHl : Statement .res5MemHl := statement_of rfl rfl
theorem res5A : Statement .res5A := statement_of rfl rfl
theorem res6B : Statement .res6B := statement_of rfl rfl
theorem res6C : Statement .res6C := statement_of rfl rfl
theorem res6D : Statement .res6D := statement_of rfl rfl
theorem res6E : Statement .res6E := statement_of rfl rfl
theorem res6H : Statement .res6H := statement_of rfl rfl
theorem res6L : Statement .res6L := statement_of rfl rfl
theorem res6MemHl : Statement .res6MemHl := statement_of rfl rfl
theorem res6A : Statement .res6A := statement_of rfl rfl
theorem res7B : Statement .res7B := statement_of rfl rfl
theorem res7C : Statement .res7C := statement_of rfl rfl
theorem res7D : Statement .res7D := statement_of rfl rfl
theorem res7E : Statement .res7E := statement_of rfl rfl
theorem res7H : Statement .res7H := statement_of rfl rfl
theorem res7L : Statement .res7L := statement_of rfl rfl
theorem res7MemHl : Statement .res7MemHl := statement_of rfl rfl
theorem res7A : Statement .res7A := statement_of rfl rfl
theorem set0B : Statement .set0B := statement_of rfl rfl
theorem set0C : Statement .set0C := statement_of rfl rfl
theorem set0D : Statement .set0D := statement_of rfl rfl
theorem set0E : Statement .set0E := statement_of rfl rfl
theorem set0H : Statement .set0H := statement_of rfl rfl
theorem set0L : Statement .set0L := statement_of rfl rfl
theorem set0MemHl : Statement .set0MemHl := statement_of rfl rfl
theorem set0A : Statement .set0A := statement_of rfl rfl
theorem set1B : Statement .set1B := statement_of rfl rfl
theorem set1C : Statement .set1C := statement_of rfl rfl
theorem set1D : Statement .set1D := statement_of rfl rfl
theorem set1E : Statement .set1E := statement_of rfl rfl
theorem set1H : Statement .set1H := statement_of rfl rfl
theorem set1L : Statement .set1L := statement_of rfl rfl
theorem set1MemHl : Statement .set1MemHl := statement_of rfl rfl
theorem set1A : Statement .set1A := statement_of rfl rfl
theorem set2B : Statement .set2B := statement_of rfl rfl
theorem set2C : Statement .set2C := statement_of rfl rfl
theorem set2D : Statement .set2D := statement_of rfl rfl
theorem set2E : Statement .set2E := statement_of rfl rfl
theorem set2H : Statement .set2H := statement_of rfl rfl
theorem set2L : Statement .set2L := statement_of rfl rfl
theorem set2MemHl : Statement .set2MemHl := statement_of rfl rfl
theorem set2A : Statement .set2A := statement_of rfl rfl
theorem set3B : Statement .set3B := statement_of rfl rfl
theorem set3C : Statement .set3C := statement_of rfl rfl
theorem set3D : Statement .set3D := statement_of rfl rfl
theorem set3E : Statement .set3E := statement_of rfl rfl
theorem set3H : Statement .set3H := statement_of rfl rfl
theorem set3L : Statement .set3L := statement_of rfl rfl
theorem set3MemHl : Statement .set3MemHl := statement_of rfl rfl
theorem set3A : Statement .set3A := statement_of rfl rfl
theorem set4B : Statement .set4B := statement_of rfl rfl
theorem set4C : Statement .set4C := statement_of rfl rfl
theorem set4D : Statement .set4D := statement_of rfl rfl
theorem set4E : Statement .set4E := statement_of rfl rfl
theorem set4H : Statement .set4H := statement_of rfl rfl
theorem set4L : Statement .set4L := statement_of rfl rfl
theorem set4MemHl : Statement .set4MemHl := statement_of rfl rfl
theorem set4A : Statement .set4A := statement_of rfl rfl
theorem set5B : Statement .set5B := statement_of rfl rfl
theorem set5C : Statement .set5C := statement_of rfl rfl
theorem set5D : Statement .set5D := statement_of rfl rfl
theorem set5E : Statement .set5E := statement_of rfl rfl
theorem set5H : Statement .set5H := statement_of rfl rfl
theorem set5L : Statement .set5L := statement_of rfl rfl
theorem set5MemHl : Statement .set5MemHl := statement_of rfl rfl
theorem set5A : Statement .set5A := statement_of rfl rfl
theorem set6B : Statement .set6B := statement_of rfl rfl
theorem set6C : Statement .set6C := statement_of rfl rfl
theorem set6D : Statement .set6D := statement_of rfl rfl
theorem set6E : Statement .set6E := statement_of rfl rfl
theorem set6H : Statement .set6H := statement_of rfl rfl
theorem set6L : Statement .set6L := statement_of rfl rfl
theorem set6MemHl : Statement .set6MemHl := statement_of rfl rfl
theorem set6A : Statement .set6A := statement_of rfl rfl
theorem set7B : Statement .set7B := statement_of rfl rfl
theorem set7C : Statement .set7C := statement_of rfl rfl
theorem set7D : Statement .set7D := statement_of rfl rfl
theorem set7E : Statement .set7E := statement_of rfl rfl
theorem set7H : Statement .set7H := statement_of rfl rfl
theorem set7L : Statement .set7L := statement_of rfl rfl
theorem set7MemHl : Statement .set7MemHl := statement_of rfl rfl
theorem set7A : Statement .set7A := statement_of rfl rfl

end Sys2Proof.Laws.Encoding
end

