-- ==== Sys2Proof/Laws/State.lean ====
section
/-! SUPPORT. One lemma per field per update of the state, so that no proof unfolds a record update. -/

namespace Sys2Proof.Machine

open Sys2Proof

/-! ### `withCost` -/

@[simp] theorem withCost_a (n : Nat) (s : State) : (withCost n s).a = s.a := rfl
@[simp] theorem withCost_f (n : Nat) (s : State) : (withCost n s).f = s.f := rfl
@[simp] theorem withCost_b (n : Nat) (s : State) : (withCost n s).b = s.b := rfl
@[simp] theorem withCost_c (n : Nat) (s : State) : (withCost n s).c = s.c := rfl
@[simp] theorem withCost_d (n : Nat) (s : State) : (withCost n s).d = s.d := rfl
@[simp] theorem withCost_e (n : Nat) (s : State) : (withCost n s).e = s.e := rfl
@[simp] theorem withCost_h (n : Nat) (s : State) : (withCost n s).h = s.h := rfl
@[simp] theorem withCost_l (n : Nat) (s : State) : (withCost n s).l = s.l := rfl
@[simp] theorem withCost_sp (n : Nat) (s : State) : (withCost n s).sp = s.sp := rfl
@[simp] theorem withCost_pc (n : Nat) (s : State) : (withCost n s).pc = s.pc := rfl
@[simp] theorem withCost_ime (n : Nat) (s : State) : (withCost n s).ime = s.ime := rfl
@[simp] theorem withCost_imePending (n : Nat) (s : State) : (withCost n s).imePending = s.imePending := rfl
@[simp] theorem withCost_haltBug (n : Nat) (s : State) : (withCost n s).haltBug = s.haltBug := rfl
@[simp] theorem withCost_mode (n : Nat) (s : State) : (withCost n s).mode = s.mode := rfl
@[simp] theorem withCost_fault (n : Nat) (s : State) : (withCost n s).fault = s.fault := rfl
@[simp] theorem withCost_ie (n : Nat) (s : State) : (withCost n s).ie = s.ie := rfl
@[simp] theorem withCost_irq (n : Nat) (s : State) : (withCost n s).irq = s.irq := rfl
@[simp] theorem withCost_div (n : Nat) (s : State) : (withCost n s).div = s.div := rfl
@[simp] theorem withCost_tima (n : Nat) (s : State) : (withCost n s).tima = s.tima := rfl
@[simp] theorem withCost_tma (n : Nat) (s : State) : (withCost n s).tma = s.tma := rfl
@[simp] theorem withCost_tac (n : Nat) (s : State) : (withCost n s).tac = s.tac := rfl
@[simp] theorem withCost_tsub (n : Nat) (s : State) : (withCost n s).tsub = s.tsub := rfl
@[simp] theorem withCost_romBank (n : Nat) (s : State) : (withCost n s).romBank = s.romBank := rfl
@[simp] theorem withCost_ramBank (n : Nat) (s : State) : (withCost n s).ramBank = s.ramBank := rfl
@[simp] theorem withCost_ramEnable (n : Nat) (s : State) : (withCost n s).ramEnable = s.ramEnable := rfl
@[simp] theorem withCost_clock (n : Nat) (s : State) : (withCost n s).clock = s.clock := rfl
@[simp] theorem withCost_wram (n : Nat) (s : State) : (withCost n s).wram = s.wram := rfl
@[simp] theorem withCost_hram (n : Nat) (s : State) : (withCost n s).hram = s.hram := rfl
@[simp] theorem withCost_io (n : Nat) (s : State) : (withCost n s).io = s.io := rfl
@[simp] theorem withCost_vram (n : Nat) (s : State) : (withCost n s).vram = s.vram := rfl
@[simp] theorem withCost_oam (n : Nat) (s : State) : (withCost n s).oam = s.oam := rfl
@[simp] theorem withCost_xram (n : Nat) (s : State) : (withCost n s).xram = s.xram := rfl
@[simp] theorem withCost_cart (n : Nat) (s : State) : (withCost n s).cart = s.cart := rfl
@[simp] theorem withCost_cycles (n : Nat) (s : State) : (withCost n s).cycles = n := rfl

/-! ### `setBc` -/

@[simp] theorem setBc_a (v : Word) (s : State) : (setBc v s).a = s.a := rfl
@[simp] theorem setBc_f (v : Word) (s : State) : (setBc v s).f = s.f := rfl
@[simp] theorem setBc_b (v : Word) (s : State) : (setBc v s).b = hiByte v := rfl
@[simp] theorem setBc_c (v : Word) (s : State) : (setBc v s).c = loByte v := rfl
@[simp] theorem setBc_d (v : Word) (s : State) : (setBc v s).d = s.d := rfl
@[simp] theorem setBc_e (v : Word) (s : State) : (setBc v s).e = s.e := rfl
@[simp] theorem setBc_h (v : Word) (s : State) : (setBc v s).h = s.h := rfl
@[simp] theorem setBc_l (v : Word) (s : State) : (setBc v s).l = s.l := rfl
@[simp] theorem setBc_sp (v : Word) (s : State) : (setBc v s).sp = s.sp := rfl
@[simp] theorem setBc_pc (v : Word) (s : State) : (setBc v s).pc = s.pc := rfl
@[simp] theorem setBc_ime (v : Word) (s : State) : (setBc v s).ime = s.ime := rfl
@[simp] theorem setBc_imePending (v : Word) (s : State) : (setBc v s).imePending = s.imePending := rfl
@[simp] theorem setBc_haltBug (v : Word) (s : State) : (setBc v s).haltBug = s.haltBug := rfl
@[simp] theorem setBc_mode (v : Word) (s : State) : (setBc v s).mode = s.mode := rfl
@[simp] theorem setBc_fault (v : Word) (s : State) : (setBc v s).fault = s.fault := rfl
@[simp] theorem setBc_ie (v : Word) (s : State) : (setBc v s).ie = s.ie := rfl
@[simp] theorem setBc_irq (v : Word) (s : State) : (setBc v s).irq = s.irq := rfl
@[simp] theorem setBc_div (v : Word) (s : State) : (setBc v s).div = s.div := rfl
@[simp] theorem setBc_tima (v : Word) (s : State) : (setBc v s).tima = s.tima := rfl
@[simp] theorem setBc_tma (v : Word) (s : State) : (setBc v s).tma = s.tma := rfl
@[simp] theorem setBc_tac (v : Word) (s : State) : (setBc v s).tac = s.tac := rfl
@[simp] theorem setBc_tsub (v : Word) (s : State) : (setBc v s).tsub = s.tsub := rfl
@[simp] theorem setBc_romBank (v : Word) (s : State) : (setBc v s).romBank = s.romBank := rfl
@[simp] theorem setBc_ramBank (v : Word) (s : State) : (setBc v s).ramBank = s.ramBank := rfl
@[simp] theorem setBc_ramEnable (v : Word) (s : State) : (setBc v s).ramEnable = s.ramEnable := rfl
@[simp] theorem setBc_clock (v : Word) (s : State) : (setBc v s).clock = s.clock := rfl
@[simp] theorem setBc_wram (v : Word) (s : State) : (setBc v s).wram = s.wram := rfl
@[simp] theorem setBc_hram (v : Word) (s : State) : (setBc v s).hram = s.hram := rfl
@[simp] theorem setBc_io (v : Word) (s : State) : (setBc v s).io = s.io := rfl
@[simp] theorem setBc_vram (v : Word) (s : State) : (setBc v s).vram = s.vram := rfl
@[simp] theorem setBc_oam (v : Word) (s : State) : (setBc v s).oam = s.oam := rfl
@[simp] theorem setBc_xram (v : Word) (s : State) : (setBc v s).xram = s.xram := rfl
@[simp] theorem setBc_cart (v : Word) (s : State) : (setBc v s).cart = s.cart := rfl
@[simp] theorem setBc_cycles (v : Word) (s : State) : (setBc v s).cycles = s.cycles := rfl

/-! ### `setDe` -/

@[simp] theorem setDe_a (v : Word) (s : State) : (setDe v s).a = s.a := rfl
@[simp] theorem setDe_f (v : Word) (s : State) : (setDe v s).f = s.f := rfl
@[simp] theorem setDe_b (v : Word) (s : State) : (setDe v s).b = s.b := rfl
@[simp] theorem setDe_c (v : Word) (s : State) : (setDe v s).c = s.c := rfl
@[simp] theorem setDe_d (v : Word) (s : State) : (setDe v s).d = hiByte v := rfl
@[simp] theorem setDe_e (v : Word) (s : State) : (setDe v s).e = loByte v := rfl
@[simp] theorem setDe_h (v : Word) (s : State) : (setDe v s).h = s.h := rfl
@[simp] theorem setDe_l (v : Word) (s : State) : (setDe v s).l = s.l := rfl
@[simp] theorem setDe_sp (v : Word) (s : State) : (setDe v s).sp = s.sp := rfl
@[simp] theorem setDe_pc (v : Word) (s : State) : (setDe v s).pc = s.pc := rfl
@[simp] theorem setDe_ime (v : Word) (s : State) : (setDe v s).ime = s.ime := rfl
@[simp] theorem setDe_imePending (v : Word) (s : State) : (setDe v s).imePending = s.imePending := rfl
@[simp] theorem setDe_haltBug (v : Word) (s : State) : (setDe v s).haltBug = s.haltBug := rfl
@[simp] theorem setDe_mode (v : Word) (s : State) : (setDe v s).mode = s.mode := rfl
@[simp] theorem setDe_fault (v : Word) (s : State) : (setDe v s).fault = s.fault := rfl
@[simp] theorem setDe_ie (v : Word) (s : State) : (setDe v s).ie = s.ie := rfl
@[simp] theorem setDe_irq (v : Word) (s : State) : (setDe v s).irq = s.irq := rfl
@[simp] theorem setDe_div (v : Word) (s : State) : (setDe v s).div = s.div := rfl
@[simp] theorem setDe_tima (v : Word) (s : State) : (setDe v s).tima = s.tima := rfl
@[simp] theorem setDe_tma (v : Word) (s : State) : (setDe v s).tma = s.tma := rfl
@[simp] theorem setDe_tac (v : Word) (s : State) : (setDe v s).tac = s.tac := rfl
@[simp] theorem setDe_tsub (v : Word) (s : State) : (setDe v s).tsub = s.tsub := rfl
@[simp] theorem setDe_romBank (v : Word) (s : State) : (setDe v s).romBank = s.romBank := rfl
@[simp] theorem setDe_ramBank (v : Word) (s : State) : (setDe v s).ramBank = s.ramBank := rfl
@[simp] theorem setDe_ramEnable (v : Word) (s : State) : (setDe v s).ramEnable = s.ramEnable := rfl
@[simp] theorem setDe_clock (v : Word) (s : State) : (setDe v s).clock = s.clock := rfl
@[simp] theorem setDe_wram (v : Word) (s : State) : (setDe v s).wram = s.wram := rfl
@[simp] theorem setDe_hram (v : Word) (s : State) : (setDe v s).hram = s.hram := rfl
@[simp] theorem setDe_io (v : Word) (s : State) : (setDe v s).io = s.io := rfl
@[simp] theorem setDe_vram (v : Word) (s : State) : (setDe v s).vram = s.vram := rfl
@[simp] theorem setDe_oam (v : Word) (s : State) : (setDe v s).oam = s.oam := rfl
@[simp] theorem setDe_xram (v : Word) (s : State) : (setDe v s).xram = s.xram := rfl
@[simp] theorem setDe_cart (v : Word) (s : State) : (setDe v s).cart = s.cart := rfl
@[simp] theorem setDe_cycles (v : Word) (s : State) : (setDe v s).cycles = s.cycles := rfl

/-! ### `setHl` -/

@[simp] theorem setHl_a (v : Word) (s : State) : (setHl v s).a = s.a := rfl
@[simp] theorem setHl_f (v : Word) (s : State) : (setHl v s).f = s.f := rfl
@[simp] theorem setHl_b (v : Word) (s : State) : (setHl v s).b = s.b := rfl
@[simp] theorem setHl_c (v : Word) (s : State) : (setHl v s).c = s.c := rfl
@[simp] theorem setHl_d (v : Word) (s : State) : (setHl v s).d = s.d := rfl
@[simp] theorem setHl_e (v : Word) (s : State) : (setHl v s).e = s.e := rfl
@[simp] theorem setHl_h (v : Word) (s : State) : (setHl v s).h = hiByte v := rfl
@[simp] theorem setHl_l (v : Word) (s : State) : (setHl v s).l = loByte v := rfl
@[simp] theorem setHl_sp (v : Word) (s : State) : (setHl v s).sp = s.sp := rfl
@[simp] theorem setHl_pc (v : Word) (s : State) : (setHl v s).pc = s.pc := rfl
@[simp] theorem setHl_ime (v : Word) (s : State) : (setHl v s).ime = s.ime := rfl
@[simp] theorem setHl_imePending (v : Word) (s : State) : (setHl v s).imePending = s.imePending := rfl
@[simp] theorem setHl_haltBug (v : Word) (s : State) : (setHl v s).haltBug = s.haltBug := rfl
@[simp] theorem setHl_mode (v : Word) (s : State) : (setHl v s).mode = s.mode := rfl
@[simp] theorem setHl_fault (v : Word) (s : State) : (setHl v s).fault = s.fault := rfl
@[simp] theorem setHl_ie (v : Word) (s : State) : (setHl v s).ie = s.ie := rfl
@[simp] theorem setHl_irq (v : Word) (s : State) : (setHl v s).irq = s.irq := rfl
@[simp] theorem setHl_div (v : Word) (s : State) : (setHl v s).div = s.div := rfl
@[simp] theorem setHl_tima (v : Word) (s : State) : (setHl v s).tima = s.tima := rfl
@[simp] theorem setHl_tma (v : Word) (s : State) : (setHl v s).tma = s.tma := rfl
@[simp] theorem setHl_tac (v : Word) (s : State) : (setHl v s).tac = s.tac := rfl
@[simp] theorem setHl_tsub (v : Word) (s : State) : (setHl v s).tsub = s.tsub := rfl
@[simp] theorem setHl_romBank (v : Word) (s : State) : (setHl v s).romBank = s.romBank := rfl
@[simp] theorem setHl_ramBank (v : Word) (s : State) : (setHl v s).ramBank = s.ramBank := rfl
@[simp] theorem setHl_ramEnable (v : Word) (s : State) : (setHl v s).ramEnable = s.ramEnable := rfl
@[simp] theorem setHl_clock (v : Word) (s : State) : (setHl v s).clock = s.clock := rfl
@[simp] theorem setHl_wram (v : Word) (s : State) : (setHl v s).wram = s.wram := rfl
@[simp] theorem setHl_hram (v : Word) (s : State) : (setHl v s).hram = s.hram := rfl
@[simp] theorem setHl_io (v : Word) (s : State) : (setHl v s).io = s.io := rfl
@[simp] theorem setHl_vram (v : Word) (s : State) : (setHl v s).vram = s.vram := rfl
@[simp] theorem setHl_oam (v : Word) (s : State) : (setHl v s).oam = s.oam := rfl
@[simp] theorem setHl_xram (v : Word) (s : State) : (setHl v s).xram = s.xram := rfl
@[simp] theorem setHl_cart (v : Word) (s : State) : (setHl v s).cart = s.cart := rfl
@[simp] theorem setHl_cycles (v : Word) (s : State) : (setHl v s).cycles = s.cycles := rfl

/-! ### `popState` -/

@[simp] theorem popState_a (s : State) : (popState s).a = s.a := rfl
@[simp] theorem popState_f (s : State) : (popState s).f = s.f := rfl
@[simp] theorem popState_b (s : State) : (popState s).b = s.b := rfl
@[simp] theorem popState_c (s : State) : (popState s).c = s.c := rfl
@[simp] theorem popState_d (s : State) : (popState s).d = s.d := rfl
@[simp] theorem popState_e (s : State) : (popState s).e = s.e := rfl
@[simp] theorem popState_h (s : State) : (popState s).h = s.h := rfl
@[simp] theorem popState_l (s : State) : (popState s).l = s.l := rfl
@[simp] theorem popState_sp (s : State) : (popState s).sp = s.sp + 1#16 + 1#16 := rfl
@[simp] theorem popState_pc (s : State) : (popState s).pc = s.pc := rfl
@[simp] theorem popState_ime (s : State) : (popState s).ime = s.ime := rfl
@[simp] theorem popState_imePending (s : State) : (popState s).imePending = s.imePending := rfl
@[simp] theorem popState_haltBug (s : State) : (popState s).haltBug = s.haltBug := rfl
@[simp] theorem popState_mode (s : State) : (popState s).mode = s.mode := rfl
@[simp] theorem popState_fault (s : State) : (popState s).fault = s.fault := rfl
@[simp] theorem popState_ie (s : State) : (popState s).ie = s.ie := rfl
@[simp] theorem popState_irq (s : State) : (popState s).irq = s.irq := rfl
@[simp] theorem popState_div (s : State) : (popState s).div = s.div := rfl
@[simp] theorem popState_tima (s : State) : (popState s).tima = s.tima := rfl
@[simp] theorem popState_tma (s : State) : (popState s).tma = s.tma := rfl
@[simp] theorem popState_tac (s : State) : (popState s).tac = s.tac := rfl
@[simp] theorem popState_tsub (s : State) : (popState s).tsub = s.tsub := rfl
@[simp] theorem popState_romBank (s : State) : (popState s).romBank = s.romBank := rfl
@[simp] theorem popState_ramBank (s : State) : (popState s).ramBank = s.ramBank := rfl
@[simp] theorem popState_ramEnable (s : State) : (popState s).ramEnable = s.ramEnable := rfl
@[simp] theorem popState_clock (s : State) : (popState s).clock = s.clock := rfl
@[simp] theorem popState_wram (s : State) : (popState s).wram = s.wram := rfl
@[simp] theorem popState_hram (s : State) : (popState s).hram = s.hram := rfl
@[simp] theorem popState_io (s : State) : (popState s).io = s.io := rfl
@[simp] theorem popState_vram (s : State) : (popState s).vram = s.vram := rfl
@[simp] theorem popState_oam (s : State) : (popState s).oam = s.oam := rfl
@[simp] theorem popState_xram (s : State) : (popState s).xram = s.xram := rfl
@[simp] theorem popState_cart (s : State) : (popState s).cart = s.cart := rfl
@[simp] theorem popState_cycles (s : State) : (popState s).cycles = s.cycles := rfl

/-! ### `request` -/

@[simp] theorem request_a (k : Source) (s : State) : (request k s).a = s.a := rfl
@[simp] theorem request_f (k : Source) (s : State) : (request k s).f = s.f := rfl
@[simp] theorem request_b (k : Source) (s : State) : (request k s).b = s.b := rfl
@[simp] theorem request_c (k : Source) (s : State) : (request k s).c = s.c := rfl
@[simp] theorem request_d (k : Source) (s : State) : (request k s).d = s.d := rfl
@[simp] theorem request_e (k : Source) (s : State) : (request k s).e = s.e := rfl
@[simp] theorem request_h (k : Source) (s : State) : (request k s).h = s.h := rfl
@[simp] theorem request_l (k : Source) (s : State) : (request k s).l = s.l := rfl
@[simp] theorem request_sp (k : Source) (s : State) : (request k s).sp = s.sp := rfl
@[simp] theorem request_pc (k : Source) (s : State) : (request k s).pc = s.pc := rfl
@[simp] theorem request_ime (k : Source) (s : State) : (request k s).ime = s.ime := rfl
@[simp] theorem request_imePending (k : Source) (s : State) : (request k s).imePending = s.imePending := rfl
@[simp] theorem request_haltBug (k : Source) (s : State) : (request k s).haltBug = s.haltBug := rfl
@[simp] theorem request_mode (k : Source) (s : State) : (request k s).mode = s.mode := rfl
@[simp] theorem request_fault (k : Source) (s : State) : (request k s).fault = s.fault := rfl
@[simp] theorem request_ie (k : Source) (s : State) : (request k s).ie = s.ie := rfl
@[simp] theorem request_irq (k : Source) (s : State) : (request k s).irq = s.irq ||| k.mask := rfl
@[simp] theorem request_div (k : Source) (s : State) : (request k s).div = s.div := rfl
@[simp] theorem request_tima (k : Source) (s : State) : (request k s).tima = s.tima := rfl
@[simp] theorem request_tma (k : Source) (s : State) : (request k s).tma = s.tma := rfl
@[simp] theorem request_tac (k : Source) (s : State) : (request k s).tac = s.tac := rfl
@[simp] theorem request_tsub (k : Source) (s : State) : (request k s).tsub = s.tsub := rfl
@[simp] theorem request_romBank (k : Source) (s : State) : (request k s).romBank = s.romBank := rfl
@[simp] theorem request_ramBank (k : Source) (s : State) : (request k s).ramBank = s.ramBank := rfl
@[simp] theorem request_ramEnable (k : Source) (s : State) : (request k s).ramEnable = s.ramEnable := rfl
@[simp] theorem request_clock (k : Source) (s : State) : (request k s).clock = s.clock := rfl
@[simp] theorem request_wram (k : Source) (s : State) : (request k s).wram = s.wram := rfl
@[simp] theorem request_hram (k : Source) (s : State) : (request k s).hram = s.hram := rfl
@[simp] theorem request_io (k : Source) (s : State) : (request k s).io = s.io := rfl
@[simp] theorem request_vram (k : Source) (s : State) : (request k s).vram = s.vram := rfl
@[simp] theorem request_oam (k : Source) (s : State) : (request k s).oam = s.oam := rfl
@[simp] theorem request_xram (k : Source) (s : State) : (request k s).xram = s.xram := rfl
@[simp] theorem request_cart (k : Source) (s : State) : (request k s).cart = s.cart := rfl
@[simp] theorem request_cycles (k : Source) (s : State) : (request k s).cycles = s.cycles := rfl

/-! ### `acknowledge` -/

@[simp] theorem acknowledge_a (k : Source) (s : State) : (acknowledge k s).a = s.a := rfl
@[simp] theorem acknowledge_f (k : Source) (s : State) : (acknowledge k s).f = s.f := rfl
@[simp] theorem acknowledge_b (k : Source) (s : State) : (acknowledge k s).b = s.b := rfl
@[simp] theorem acknowledge_c (k : Source) (s : State) : (acknowledge k s).c = s.c := rfl
@[simp] theorem acknowledge_d (k : Source) (s : State) : (acknowledge k s).d = s.d := rfl
@[simp] theorem acknowledge_e (k : Source) (s : State) : (acknowledge k s).e = s.e := rfl
@[simp] theorem acknowledge_h (k : Source) (s : State) : (acknowledge k s).h = s.h := rfl
@[simp] theorem acknowledge_l (k : Source) (s : State) : (acknowledge k s).l = s.l := rfl
@[simp] theorem acknowledge_sp (k : Source) (s : State) : (acknowledge k s).sp = s.sp := rfl
@[simp] theorem acknowledge_pc (k : Source) (s : State) : (acknowledge k s).pc = s.pc := rfl
@[simp] theorem acknowledge_ime (k : Source) (s : State) : (acknowledge k s).ime = s.ime := rfl
@[simp] theorem acknowledge_imePending (k : Source) (s : State) : (acknowledge k s).imePending = s.imePending := rfl
@[simp] theorem acknowledge_haltBug (k : Source) (s : State) : (acknowledge k s).haltBug = s.haltBug := rfl
@[simp] theorem acknowledge_mode (k : Source) (s : State) : (acknowledge k s).mode = s.mode := rfl
@[simp] theorem acknowledge_fault (k : Source) (s : State) : (acknowledge k s).fault = s.fault := rfl
@[simp] theorem acknowledge_ie (k : Source) (s : State) : (acknowledge k s).ie = s.ie := rfl
@[simp] theorem acknowledge_irq (k : Source) (s : State) : (acknowledge k s).irq = s.irq &&& ~~~k.mask := rfl
@[simp] theorem acknowledge_div (k : Source) (s : State) : (acknowledge k s).div = s.div := rfl
@[simp] theorem acknowledge_tima (k : Source) (s : State) : (acknowledge k s).tima = s.tima := rfl
@[simp] theorem acknowledge_tma (k : Source) (s : State) : (acknowledge k s).tma = s.tma := rfl
@[simp] theorem acknowledge_tac (k : Source) (s : State) : (acknowledge k s).tac = s.tac := rfl
@[simp] theorem acknowledge_tsub (k : Source) (s : State) : (acknowledge k s).tsub = s.tsub := rfl
@[simp] theorem acknowledge_romBank (k : Source) (s : State) : (acknowledge k s).romBank = s.romBank := rfl
@[simp] theorem acknowledge_ramBank (k : Source) (s : State) : (acknowledge k s).ramBank = s.ramBank := rfl
@[simp] theorem acknowledge_ramEnable (k : Source) (s : State) : (acknowledge k s).ramEnable = s.ramEnable := rfl
@[simp] theorem acknowledge_clock (k : Source) (s : State) : (acknowledge k s).clock = s.clock := rfl
@[simp] theorem acknowledge_wram (k : Source) (s : State) : (acknowledge k s).wram = s.wram := rfl
@[simp] theorem acknowledge_hram (k : Source) (s : State) : (acknowledge k s).hram = s.hram := rfl
@[simp] theorem acknowledge_io (k : Source) (s : State) : (acknowledge k s).io = s.io := rfl
@[simp] theorem acknowledge_vram (k : Source) (s : State) : (acknowledge k s).vram = s.vram := rfl
@[simp] theorem acknowledge_oam (k : Source) (s : State) : (acknowledge k s).oam = s.oam := rfl
@[simp] theorem acknowledge_xram (k : Source) (s : State) : (acknowledge k s).xram = s.xram := rfl
@[simp] theorem acknowledge_cart (k : Source) (s : State) : (acknowledge k s).cart = s.cart := rfl
@[simp] theorem acknowledge_cycles (k : Source) (s : State) : (acknowledge k s).cycles = s.cycles := rfl

/-! ### `setMasterEnable` -/

@[simp] theorem setMasterEnable_a (on : Bool) (s : State) : (setMasterEnable on s).a = s.a := rfl
@[simp] theorem setMasterEnable_f (on : Bool) (s : State) : (setMasterEnable on s).f = s.f := rfl
@[simp] theorem setMasterEnable_b (on : Bool) (s : State) : (setMasterEnable on s).b = s.b := rfl
@[simp] theorem setMasterEnable_c (on : Bool) (s : State) : (setMasterEnable on s).c = s.c := rfl
@[simp] theorem setMasterEnable_d (on : Bool) (s : State) : (setMasterEnable on s).d = s.d := rfl
@[simp] theorem setMasterEnable_e (on : Bool) (s : State) : (setMasterEnable on s).e = s.e := rfl
@[simp] theorem setMasterEnable_h (on : Bool) (s : State) : (setMasterEnable on s).h = s.h := rfl
@[simp] theorem setMasterEnable_l (on : Bool) (s : State) : (setMasterEnable on s).l = s.l := rfl
@[simp] theorem setMasterEnable_sp (on : Bool) (s : State) : (setMasterEnable on s).sp = s.sp := rfl
@[simp] theorem setMasterEnable_pc (on : Bool) (s : State) : (setMasterEnable on s).pc = s.pc := rfl
@[simp] theorem setMasterEnable_ime (on : Bool) (s : State) : (setMasterEnable on s).ime = on := rfl
@[simp] theorem setMasterEnable_imePending (on : Bool) (s : State) : (setMasterEnable on s).imePending = s.imePending := rfl
@[simp] theorem setMasterEnable_haltBug (on : Bool) (s : State) : (setMasterEnable on s).haltBug = s.haltBug := rfl
@[simp] theorem setMasterEnable_mode (on : Bool) (s : State) : (setMasterEnable on s).mode = s.mode := rfl
@[simp] theorem setMasterEnable_fault (on : Bool) (s : State) : (setMasterEnable on s).fault = s.fault := rfl
@[simp] theorem setMasterEnable_ie (on : Bool) (s : State) : (setMasterEnable on s).ie = s.ie := rfl
@[simp] theorem setMasterEnable_irq (on : Bool) (s : State) : (setMasterEnable on s).irq = s.irq := rfl
@[simp] theorem setMasterEnable_div (on : Bool) (s : State) : (setMasterEnable on s).div = s.div := rfl
@[simp] theorem setMasterEnable_tima (on : Bool) (s : State) : (setMasterEnable on s).tima = s.tima := rfl
@[simp] theorem setMasterEnable_tma (on : Bool) (s : State) : (setMasterEnable on s).tma = s.tma := rfl
@[simp] theorem setMasterEnable_tac (on : Bool) (s : State) : (setMasterEnable on s).tac = s.tac := rfl
@[simp] theorem setMasterEnable_tsub (on : Bool) (s : State) : (setMasterEnable on s).tsub = s.tsub := rfl
@[simp] theorem setMasterEnable_romBank (on : Bool) (s : State) : (setMasterEnable on s).romBank = s.romBank := rfl
@[simp] theorem setMasterEnable_ramBank (on : Bool) (s : State) : (setMasterEnable on s).ramBank = s.ramBank := rfl
@[simp] theorem setMasterEnable_ramEnable (on : Bool) (s : State) : (setMasterEnable on s).ramEnable = s.ramEnable := rfl
@[simp] theorem setMasterEnable_clock (on : Bool) (s : State) : (setMasterEnable on s).clock = s.clock := rfl
@[simp] theorem setMasterEnable_wram (on : Bool) (s : State) : (setMasterEnable on s).wram = s.wram := rfl
@[simp] theorem setMasterEnable_hram (on : Bool) (s : State) : (setMasterEnable on s).hram = s.hram := rfl
@[simp] theorem setMasterEnable_io (on : Bool) (s : State) : (setMasterEnable on s).io = s.io := rfl
@[simp] theorem setMasterEnable_vram (on : Bool) (s : State) : (setMasterEnable on s).vram = s.vram := rfl
@[simp] theorem setMasterEnable_oam (on : Bool) (s : State) : (setMasterEnable on s).oam = s.oam := rfl
@[simp] theorem setMasterEnable_xram (on : Bool) (s : State) : (setMasterEnable on s).xram = s.xram := rfl
@[simp] theorem setMasterEnable_cart (on : Bool) (s : State) : (setMasterEnable on s).cart = s.cart := rfl
@[simp] theorem setMasterEnable_cycles (on : Bool) (s : State) : (setMasterEnable on s).cycles = s.cycles := rfl

/-! ### `raiseUndefined` -/

@[simp] theorem raiseUndefined_a (op : Byte) (s : State) : (raiseUndefined op s).a = s.a := rfl
@[simp] theorem raiseUndefined_f (op : Byte) (s : State) : (raiseUndefined op s).f = s.f := rfl
@[simp] theorem raiseUndefined_b (op : Byte) (s : State) : (raiseUndefined op s).b = s.b := rfl
@[simp] theorem raiseUndefined_c (op : Byte) (s : State) : (raiseUndefined op s).c = s.c := rfl
@[simp] theorem raiseUndefined_d (op : Byte) (s : State) : (raiseUndefined op s).d = s.d := rfl
@[simp] theorem raiseUndefined_e (op : Byte) (s : State) : (raiseUndefined op s).e = s.e := rfl
@[simp] theorem raiseUndefined_h (op : Byte) (s : State) : (raiseUndefined op s).h = s.h := rfl
@[simp] theorem raiseUndefined_l (op : Byte) (s : State) : (raiseUndefined op s).l = s.l := rfl
@[simp] theorem raiseUndefined_sp (op : Byte) (s : State) : (raiseUndefined op s).sp = s.sp := rfl
@[simp] theorem raiseUndefined_pc (op : Byte) (s : State) : (raiseUndefined op s).pc = s.pc := rfl
@[simp] theorem raiseUndefined_ime (op : Byte) (s : State) : (raiseUndefined op s).ime = s.ime := rfl
@[simp] theorem raiseUndefined_imePending (op : Byte) (s : State) : (raiseUndefined op s).imePending = s.imePending := rfl
@[simp] theorem raiseUndefined_haltBug (op : Byte) (s : State) : (raiseUndefined op s).haltBug = s.haltBug := rfl
@[simp] theorem raiseUndefined_mode (op : Byte) (s : State) : (raiseUndefined op s).mode = .faulted := rfl
@[simp] theorem raiseUndefined_fault (op : Byte) (s : State) : (raiseUndefined op s).fault = some { opcode := op, pc := s.pc } := rfl
@[simp] theorem raiseUndefined_ie (op : Byte) (s : State) : (raiseUndefined op s).ie = s.ie := rfl
@[simp] theorem raiseUndefined_irq (op : Byte) (s : State) : (raiseUndefined op s).irq = s.irq := rfl
@[simp] theorem raiseUndefined_div (op : Byte) (s : State) : (raiseUndefined op s).div = s.div := rfl
@[simp] theorem raiseUndefined_tima (op : Byte) (s : State) : (raiseUndefined op s).tima = s.tima := rfl
@[simp] theorem raiseUndefined_tma (op : Byte) (s : State) : (raiseUndefined op s).tma = s.tma := rfl
@[simp] theorem raiseUndefined_tac (op : Byte) (s : State) : (raiseUndefined op s).tac = s.tac := rfl
@[simp] theorem raiseUndefined_tsub (op : Byte) (s : State) : (raiseUndefined op s).tsub = s.tsub := rfl
@[simp] theorem raiseUndefined_romBank (op : Byte) (s : State) : (raiseUndefined op s).romBank = s.romBank := rfl
@[simp] theorem raiseUndefined_ramBank (op : Byte) (s : State) : (raiseUndefined op s).ramBank = s.ramBank := rfl
@[simp] theorem raiseUndefined_ramEnable (op : Byte) (s : State) : (raiseUndefined op s).ramEnable = s.ramEnable := rfl
@[simp] theorem raiseUndefined_clock (op : Byte) (s : State) : (raiseUndefined op s).clock = s.clock := rfl
@[simp] theorem raiseUndefined_wram (op : Byte) (s : State) : (raiseUndefined op s).wram = s.wram := rfl
@[simp] theorem raiseUndefined_hram (op : Byte) (s : State) : (raiseUndefined op s).hram = s.hram := rfl
@[simp] theorem raiseUndefined_io (op : Byte) (s : State) : (raiseUndefined op s).io = s.io := rfl
@[simp] theorem raiseUndefined_vram (op : Byte) (s : State) : (raiseUndefined op s).vram = s.vram := rfl
@[simp] theorem raiseUndefined_oam (op : Byte) (s : State) : (raiseUndefined op s).oam = s.oam := rfl
@[simp] theorem raiseUndefined_xram (op : Byte) (s : State) : (raiseUndefined op s).xram = s.xram := rfl
@[simp] theorem raiseUndefined_cart (op : Byte) (s : State) : (raiseUndefined op s).cart = s.cart := rfl
@[simp] theorem raiseUndefined_cycles (op : Byte) (s : State) : (raiseUndefined op s).cycles = s.cycles := rfl

/-! ### `afterFetch` -/

@[simp] theorem afterFetch_a (n : Nat) (s : State) : (afterFetch n s).a = s.a := rfl
@[simp] theorem afterFetch_f (n : Nat) (s : State) : (afterFetch n s).f = s.f := rfl
@[simp] theorem afterFetch_b (n : Nat) (s : State) : (afterFetch n s).b = s.b := rfl
@[simp] theorem afterFetch_c (n : Nat) (s : State) : (afterFetch n s).c = s.c := rfl
@[simp] theorem afterFetch_d (n : Nat) (s : State) : (afterFetch n s).d = s.d := rfl
@[simp] theorem afterFetch_e (n : Nat) (s : State) : (afterFetch n s).e = s.e := rfl
@[simp] theorem afterFetch_h (n : Nat) (s : State) : (afterFetch n s).h = s.h := rfl
@[simp] theorem afterFetch_l (n : Nat) (s : State) : (afterFetch n s).l = s.l := rfl
@[simp] theorem afterFetch_sp (n : Nat) (s : State) : (afterFetch n s).sp = s.sp := rfl
@[simp] theorem afterFetch_pc (n : Nat) (s : State) : (afterFetch n s).pc = operandBase s + BitVec.ofNat 16 (n - 1) := rfl
@[simp] theorem afterFetch_ime (n : Nat) (s : State) : (afterFetch n s).ime = s.ime := rfl
@[simp] theorem afterFetch_imePending (n : Nat) (s : State) : (afterFetch n s).imePending = s.imePending := rfl
@[simp] theorem afterFetch_haltBug (n : Nat) (s : State) : (afterFetch n s).haltBug = false := rfl
@[simp] theorem afterFetch_mode (n : Nat) (s : State) : (afterFetch n s).mode = s.mode := rfl
@[simp] theorem afterFetch_fault (n : Nat) (s : State) : (afterFetch n s).fault = s.fault := rfl
@[simp] theorem afterFetch_ie (n : Nat) (s : State) : (afterFetch n s).ie = s.ie := rfl
@[simp] theorem afterFetch_irq (n : Nat) (s : State) : (afterFetch n s).irq = s.irq := rfl
@[simp] theorem afterFetch_div (n : Nat) (s : State) : (afterFetch n s).div = s.div := rfl
@[simp] theorem afterFetch_tima (n : Nat) (s : State) : (afterFetch n s).tima = s.tima := rfl
@[simp] theorem afterFetch_tma (n : Nat) (s : State) : (afterFetch n s).tma = s.tma := rfl
@[simp] theorem afterFetch_tac (n : Nat) (s : State) : (afterFetch n s).tac = s.tac := rfl
@[simp] theorem afterFetch_tsub (n : Nat) (s : State) : (afterFetch n s).tsub = s.tsub := rfl
@[simp] theorem afterFetch_romBank (n : Nat) (s : State) : (afterFetch n s).romBank = s.romBank := rfl
@[simp] theorem afterFetch_ramBank (n : Nat) (s : State) : (afterFetch n s).ramBank = s.ramBank := rfl
@[simp] theorem afterFetch_ramEnable (n : Nat) (s : State) : (afterFetch n s).ramEnable = s.ramEnable := rfl
@[simp] theorem afterFetch_clock (n : Nat) (s : State) : (afterFetch n s).clock = s.clock := rfl
@[simp] theorem afterFetch_wram (n : Nat) (s : State) : (afterFetch n s).wram = s.wram := rfl
@[simp] theorem afterFetch_hram (n : Nat) (s : State) : (afterFetch n s).hram = s.hram := rfl
@[simp] theorem afterFetch_io (n : Nat) (s : State) : (afterFetch n s).io = s.io := rfl
@[simp] theorem afterFetch_vram (n : Nat) (s : State) : (afterFetch n s).vram = s.vram := rfl
@[simp] theorem afterFetch_oam (n : Nat) (s : State) : (afterFetch n s).oam = s.oam := rfl
@[simp] theorem afterFetch_xram (n : Nat) (s : State) : (afterFetch n s).xram = s.xram := rfl
@[simp] theorem afterFetch_cart (n : Nat) (s : State) : (afterFetch n s).cart = s.cart := rfl
@[simp] theorem afterFetch_cycles (n : Nat) (s : State) : (afterFetch n s).cycles = s.cycles := rfl

/-! ### `returnPc` -/

@[simp] theorem returnPc_a (s : State) : (returnPc s).a = s.a := rfl
@[simp] theorem returnPc_f (s : State) : (returnPc s).f = s.f := rfl
@[simp] theorem returnPc_b (s : State) : (returnPc s).b = s.b := rfl
@[simp] theorem returnPc_c (s : State) : (returnPc s).c = s.c := rfl
@[simp] theorem returnPc_d (s : State) : (returnPc s).d = s.d := rfl
@[simp] theorem returnPc_e (s : State) : (returnPc s).e = s.e := rfl
@[simp] theorem returnPc_h (s : State) : (returnPc s).h = s.h := rfl
@[simp] theorem returnPc_l (s : State) : (returnPc s).l = s.l := rfl
@[simp] theorem returnPc_sp (s : State) : (returnPc s).sp = s.sp + 1#16 + 1#16 := rfl
@[simp] theorem returnPc_pc (s : State) : (returnPc s).pc = popValue s := rfl
@[simp] theorem returnPc_ime (s : State) : (returnPc s).ime = s.ime := rfl
@[simp] theorem returnPc_imePending (s : State) : (returnPc s).imePending = s.imePending := rfl
@[simp] theorem returnPc_haltBug (s : State) : (returnPc s).haltBug = s.haltBug := rfl
@[simp] theorem returnPc_mode (s : State) : (returnPc s).mode = s.mode := rfl
@[simp] theorem returnPc_fault (s : State) : (returnPc s).fault = s.fault := rfl
@[simp] theorem returnPc_ie (s : State) : (returnPc s).ie = s.ie := rfl
@[simp] theorem returnPc_irq (s : State) : (returnPc s).irq = s.irq := rfl
@[simp] theorem returnPc_div (s : State) : (returnPc s).div = s.div := rfl
@[simp] theorem returnPc_tima (s : State) : (returnPc s).tima = s.tima := rfl
@[simp] theorem returnPc_tma (s : State) : (returnPc s).tma = s.tma := rfl
@[simp] theorem returnPc_tac (s : State) : (returnPc s).tac = s.tac := rfl
@[simp] theorem returnPc_tsub (s : State) : (returnPc s).tsub = s.tsub := rfl
@[simp] theorem returnPc_romBank (s : State) : (returnPc s).romBank = s.romBank := rfl
@[simp] theorem returnPc_ramBank (s : State) : (returnPc s).ramBank = s.ramBank := rfl
@[simp] theorem returnPc_ramEnable (s : State) : (returnPc s).ramEnable = s.ramEnable := rfl
@[simp] theorem returnPc_clock (s : State) : (returnPc s).clock = s.clock := rfl
@[simp] theorem returnPc_wram (s : State) : (returnPc s).wram = s.wram := rfl
@[simp] theorem returnPc_hram (s : State) : (returnPc s).hram = s.hram := rfl
@[simp] theorem returnPc_io (s : State) : (returnPc s).io = s.io := rfl
@[simp] theorem returnPc_vram (s : State) : (returnPc s).vram = s.vram := rfl
@[simp] theorem returnPc_oam (s : State) : (returnPc s).oam = s.oam := rfl
@[simp] theorem returnPc_xram (s : State) : (returnPc s).xram = s.xram := rfl
@[simp] theorem returnPc_cart (s : State) : (returnPc s).cart = s.cart := rfl
@[simp] theorem returnPc_cycles (s : State) : (returnPc s).cycles = s.cycles := rfl

/-! ### `setReg`, `setPair`, `setStackPair`: the fields no register code names -/

@[simp] theorem setReg_f (r : Reg8) (v : Byte) (s : State) : (setReg r v s).f = s.f := by cases r <;> rfl
@[simp] theorem setReg_sp (r : Reg8) (v : Byte) (s : State) : (setReg r v s).sp = s.sp := by cases r <;> rfl
@[simp] theorem setReg_pc (r : Reg8) (v : Byte) (s : State) : (setReg r v s).pc = s.pc := by cases r <;> rfl
@[simp] theorem setReg_ime (r : Reg8) (v : Byte) (s : State) : (setReg r v s).ime = s.ime := by cases r <;> rfl
@[simp] theorem setReg_imePending (r : Reg8) (v : Byte) (s : State) : (setReg r v s).imePending = s.imePending := by cases r <;> rfl
@[simp] theorem setReg_haltBug (r : Reg8) (v : Byte) (s : State) : (setReg r v s).haltBug = s.haltBug := by cases r <;> rfl
@[simp] theorem setReg_mode (r : Reg8) (v : Byte) (s : State) : (setReg r v s).mode = s.mode := by cases r <;> rfl
@[simp] theorem setReg_fault (r : Reg8) (v : Byte) (s : State) : (setReg r v s).fault = s.fault := by cases r <;> rfl
@[simp] theorem setReg_ie (r : Reg8) (v : Byte) (s : State) : (setReg r v s).ie = s.ie := by cases r <;> rfl
@[simp] theorem setReg_irq (r : Reg8) (v : Byte) (s : State) : (setReg r v s).irq = s.irq := by cases r <;> rfl
@[simp] theorem setReg_div (r : Reg8) (v : Byte) (s : State) : (setReg r v s).div = s.div := by cases r <;> rfl
@[simp] theorem setReg_tima (r : Reg8) (v : Byte) (s : State) : (setReg r v s).tima = s.tima := by cases r <;> rfl
@[simp] theorem setReg_tma (r : Reg8) (v : Byte) (s : State) : (setReg r v s).tma = s.tma := by cases r <;> rfl
@[simp] theorem setReg_tac (r : Reg8) (v : Byte) (s : State) : (setReg r v s).tac = s.tac := by cases r <;> rfl
@[simp] theorem setReg_tsub (r : Reg8) (v : Byte) (s : State) : (setReg r v s).tsub = s.tsub := by cases r <;> rfl
@[simp] theorem setReg_romBank (r : Reg8) (v : Byte) (s : State) : (setReg r v s).romBank = s.romBank := by cases r <;> rfl
@[simp] theorem setReg_ramBank (r : Reg8) (v : Byte) (s : State) : (setReg r v s).ramBank = s.ramBank := by cases r <;> rfl
@[simp] theorem setReg_ramEnable (r : Reg8) (v : Byte) (s : State) : (setReg r v s).ramEnable = s.ramEnable := by cases r <;> rfl
@[simp] theorem setReg_clock (r : Reg8) (v : Byte) (s : State) : (setReg r v s).clock = s.clock := by cases r <;> rfl
@[simp] theorem setReg_wram (r : Reg8) (v : Byte) (s : State) : (setReg r v s).wram = s.wram := by cases r <;> rfl
@[simp] theorem setReg_hram (r : Reg8) (v : Byte) (s : State) : (setReg r v s).hram = s.hram := by cases r <;> rfl
@[simp] theorem setReg_io (r : Reg8) (v : Byte) (s : State) : (setReg r v s).io = s.io := by cases r <;> rfl
@[simp] theorem setReg_vram (r : Reg8) (v : Byte) (s : State) : (setReg r v s).vram = s.vram := by cases r <;> rfl
@[simp] theorem setReg_oam (r : Reg8) (v : Byte) (s : State) : (setReg r v s).oam = s.oam := by cases r <;> rfl
@[simp] theorem setReg_xram (r : Reg8) (v : Byte) (s : State) : (setReg r v s).xram = s.xram := by cases r <;> rfl
@[simp] theorem setReg_cart (r : Reg8) (v : Byte) (s : State) : (setReg r v s).cart = s.cart := by cases r <;> rfl
@[simp] theorem setReg_cycles (r : Reg8) (v : Byte) (s : State) : (setReg r v s).cycles = s.cycles := by cases r <;> rfl

@[simp] theorem setPair_a (p : Pair) (v : Word) (s : State) : (setPair p v s).a = s.a := by cases p <;> rfl
@[simp] theorem setPair_f (p : Pair) (v : Word) (s : State) : (setPair p v s).f = s.f := by cases p <;> rfl
@[simp] theorem setPair_pc (p : Pair) (v : Word) (s : State) : (setPair p v s).pc = s.pc := by cases p <;> rfl
@[simp] theorem setPair_ime (p : Pair) (v : Word) (s : State) : (setPair p v s).ime = s.ime := by cases p <;> rfl
@[simp] theorem setPair_imePending (p : Pair) (v : Word) (s : State) : (setPair p v s).imePending = s.imePending := by cases p <;> rfl
@[simp] theorem setPair_haltBug (p : Pair) (v : Word) (s : State) : (setPair p v s).haltBug = s.haltBug := by cases p <;> rfl
@[simp] theorem setPair_mode (p : Pair) (v : Word) (s : State) : (setPair p v s).mode = s.mode := by cases p <;> rfl
@[simp] theorem setPair_fault (p : Pair) (v : Word) (s : State) : (setPair p v s).fault = s.fault := by cases p <;> rfl
@[simp] theorem setPair_ie (p : Pair) (v : Word) (s : State) : (setPair p v s).ie = s.ie := by cases p <;> rfl
@[simp] theorem setPair_irq (p : Pair) (v : Word) (s : State) : (setPair p v s).irq = s.irq := by cases p <;> rfl
@[simp] theorem setPair_div (p : Pair) (v : Word) (s : State) : (setPair p v s).div = s.div := by cases p <;> rfl
@[simp] theorem setPair_tima (p : Pair) (v : Word) (s : State) : (setPair p v s).tima = s.tima := by cases p <;> rfl
@[simp] theorem setPair_tma (p : Pair) (v : Word) (s : State) : (setPair p v s).tma = s.tma := by cases p <;> rfl
@[simp] theorem setPair_tac (p : Pair) (v : Word) (s : State) : (setPair p v s).tac = s.tac := by cases p <;> rfl
@[simp] theorem setPair_tsub (p : Pair) (v : Word) (s : State) : (setPair p v s).tsub = s.tsub := by cases p <;> rfl
@[simp] theorem setPair_romBank (p : Pair) (v : Word) (s : State) : (setPair p v s).romBank = s.romBank := by cases p <;> rfl
@[simp] theorem setPair_ramBank (p : Pair) (v : Word) (s : State) : (setPair p v s).ramBank = s.ramBank := by cases p <;> rfl
@[simp] theorem setPair_ramEnable (p : Pair) (v : Word) (s : State) : (setPair p v s).ramEnable = s.ramEnable := by cases p <;> rfl
@[simp] theorem setPair_clock (p : Pair) (v : Word) (s : State) : (setPair p v s).clock = s.clock := by cases p <;> rfl
@[simp] theorem setPair_wram (p : Pair) (v : Word) (s : State) : (setPair p v s).wram = s.wram := by cases p <;> rfl
@[simp] theorem setPair_hram (p : Pair) (v : Word) (s : State) : (setPair p v s).hram = s.hram := by cases p <;> rfl
@[simp] theorem setPair_io (p : Pair) (v : Word) (s : State) : (setPair p v s).io = s.io := by cases p <;> rfl
@[simp] theorem setPair_vram (p : Pair) (v : Word) (s : State) : (setPair p v s).vram = s.vram := by cases p <;> rfl
@[simp] theorem setPair_oam (p : Pair) (v : Word) (s : State) : (setPair p v s).oam = s.oam := by cases p <;> rfl
@[simp] theorem setPair_xram (p : Pair) (v : Word) (s : State) : (setPair p v s).xram = s.xram := by cases p <;> rfl
@[simp] theorem setPair_cart (p : Pair) (v : Word) (s : State) : (setPair p v s).cart = s.cart := by cases p <;> rfl
@[simp] theorem setPair_cycles (p : Pair) (v : Word) (s : State) : (setPair p v s).cycles = s.cycles := by cases p <;> rfl

@[simp] theorem setStackPair_sp (p : StackPair) (v : Word) (s : State) : (setStackPair p v s).sp = s.sp := by cases p <;> rfl
@[simp] theorem setStackPair_pc (p : StackPair) (v : Word) (s : State) : (setStackPair p v s).pc = s.pc := by cases p <;> rfl
@[simp] theorem setStackPair_ime (p : StackPair) (v : Word) (s : State) : (setStackPair p v s).ime = s.ime := by cases p <;> rfl
@[simp] theorem setStackPair_imePending (p : StackPair) (v : Word) (s : State) : (setStackPair p v s).imePending = s.imePending := by cases p <;> rfl
@[simp] theorem setStackPair_haltBug (p : StackPair) (v : Word) (s : State) : (setStackPair p v s).haltBug = s.haltBug := by cases p <;> rfl
@[simp] theorem setStackPair_mode (p : StackPair) (v : Word) (s : State) : (setStackPair p v s).mode = s.mode := by cases p <;> rfl
@[simp] theorem setStackPair_fault (p : StackPair) (v : Word) (s : State) : (setStackPair p v s).fault = s.fault := by cases p <;> rfl
@[simp] theorem setStackPair_ie (p : StackPair) (v : Word) (s : State) : (setStackPair p v s).ie = s.ie := by cases p <;> rfl
@[simp] theorem setStackPair_irq (p : StackPair) (v : Word) (s : State) : (setStackPair p v s).irq = s.irq := by cases p <;> rfl
@[simp] theorem setStackPair_div (p : StackPair) (v : Word) (s : State) : (setStackPair p v s).div = s.div := by cases p <;> rfl
@[simp] theorem setStackPair_tima (p : StackPair) (v : Word) (s : State) : (setStackPair p v s).tima = s.tima := by cases p <;> rfl
@[simp] theorem setStackPair_tma (p : StackPair) (v : Word) (s : State) : (setStackPair p v s).tma = s.tma := by cases p <;> rfl
@[simp] theorem setStackPair_tac (p : StackPair) (v : Word) (s : State) : (setStackPair p v s).tac = s.tac := by cases p <;> rfl
@[simp] theorem setStackPair_tsub (p : StackPair) (v : Word) (s : State) : (setStackPair p v s).tsub = s.tsub := by cases p <;> rfl
@[simp] theorem setStackPair_romBank (p : StackPair) (v : Word) (s : State) : (setStackPair p v s).romBank = s.romBank := by cases p <;> rfl
@[simp] theorem setStackPair_ramBank (p : StackPair) (v : Word) (s : State) : (setStackPair p v s).ramBank = s.ramBank := by cases p <;> rfl
@[simp] theorem setStackPair_ramEnable (p : StackPair) (v : Word) (s : State) : (setStackPair p v s).ramEnable = s.ramEnable := by cases p <;> rfl
@[simp] theorem setStackPair_clock (p : StackPair) (v : Word) (s : State) : (setStackPair p v s).clock = s.clock := by cases p <;> rfl
@[simp] theorem setStackPair_wram (p : StackPair) (v : Word) (s : State) : (setStackPair p v s).wram = s.wram := by cases p <;> rfl
@[simp] theorem setStackPair_hram (p : StackPair) (v : Word) (s : State) : (setStackPair p v s).hram = s.hram := by cases p <;> rfl
@[simp] theorem setStackPair_io (p : StackPair) (v : Word) (s : State) : (setStackPair p v s).io = s.io := by cases p <;> rfl
@[simp] theorem setStackPair_vram (p : StackPair) (v : Word) (s : State) : (setStackPair p v s).vram = s.vram := by cases p <;> rfl
@[simp] theorem setStackPair_oam (p : StackPair) (v : Word) (s : State) : (setStackPair p v s).oam = s.oam := by cases p <;> rfl
@[simp] theorem setStackPair_xram (p : StackPair) (v : Word) (s : State) : (setStackPair p v s).xram = s.xram := by cases p <;> rfl
@[simp] theorem setStackPair_cart (p : StackPair) (v : Word) (s : State) : (setStackPair p v s).cart = s.cart := by cases p <;> rfl
@[simp] theorem setStackPair_cycles (p : StackPair) (v : Word) (s : State) : (setStackPair p v s).cycles = s.cycles := by cases p <;> rfl

/-! ### Reading back -/

@[simp] theorem getReg_setReg (r : Reg8) (v : Byte) (s : State) : getReg r (setReg r v s) = v := by cases r <;> rfl

theorem getReg_setReg_other {r q : Reg8} (h : q ≠ r) (v : Byte) (s : State) : getReg q (setReg r v s) = getReg q s := by
  cases r <;> cases q <;> first | rfl | exact absurd rfl h

@[simp] theorem getReg_withCost (r : Reg8) (n : Nat) (s : State) : getReg r (withCost n s) = getReg r s := by
  cases r <;> rfl

theorem pairOf_hi_lo (v : Word) : pairOf (hiByte v) (loByte v) = v := by
  apply BitVec.eq_of_getLsbD_eq
  intro i hi
  simp only [pairOf, hiByte, loByte, BitVec.getLsbD_append, BitVec.getLsbD_extractLsb']
  by_cases h : i < 8
  · simp [h]
  · simp only [h, decide_false, Bool.false_and]
    have : i - 8 < 8 := by omega
    simp [this, show 8 + (i - 8) = i by omega]

@[simp] theorem hiByte_pairOf (hi lo : Byte) : hiByte (pairOf hi lo) = hi := by
  apply BitVec.eq_of_getLsbD_eq
  intro i h
  simp only [pairOf, hiByte, BitVec.getLsbD_extractLsb', BitVec.getLsbD_append, h]
  simp [show ¬ 8 + i < 8 by omega]

@[simp] theorem loByte_pairOf (hi lo : Byte) : loByte (pairOf hi lo) = lo := by
  apply BitVec.eq_of_getLsbD_eq
  intro i h
  simp only [pairOf, loByte, BitVec.getLsbD_extractLsb', BitVec.getLsbD_append, Nat.zero_add, h]
  simp

@[simp] theorem getPair_setPair (p : Pair) (v : Word) (s : State) : getPair p (setPair p v s) = v := by
  cases p <;> simp [getPair, setPair, getBc, getDe, getHl, pairOf_hi_lo]

@[simp] theorem getHl_setHl (v : Word) (s : State) : getHl (setHl v s) = v := by simp [getHl, pairOf_hi_lo]

end Sys2Proof.Machine
end

