-- ==== Sys2Proof/Laws/Router.lean ====
section
/-! SUPPORT. The address router: which addresses each region holds, what a write can change, and that it keeps the
invariant. -/

namespace Sys2Proof.Machine

open Sys2Proof

/-! ## Regions -/

/-- The addresses of a region (20_memory R85, R105). -/
def Region.Bounds (r : Region) (n : Nat) : Prop :=
  match r with
  | .romFixed => n < 0x4000
  | .romBanked => 0x4000 ≤ n ∧ n < 0x8000
  | .vram => 0x8000 ≤ n ∧ n < 0xA000
  | .xram => 0xA000 ≤ n ∧ n < 0xC000
  | .wram => 0xC000 ≤ n ∧ n < 0xE000
  | .echo => 0xE000 ≤ n ∧ n < 0xFE00
  | .oam => 0xFE00 ≤ n ∧ n < 0xFEA0
  | .unused => 0xFEA0 ≤ n ∧ n < 0xFF00
  | .div => n = 0xFF04
  | .tima => n = 0xFF05
  | .tma => n = 0xFF06
  | .tac => n = 0xFF07
  | .irq => n = 0xFF0F
  | .io => 0xFF00 ≤ n ∧ n < 0xFF80 ∧ n ≠ 0xFF04 ∧ n ≠ 0xFF05 ∧ n ≠ 0xFF06 ∧ n ≠ 0xFF07 ∧ n ≠ 0xFF0F
  | .hram => 0xFF80 ≤ n ∧ n < 0xFFFF
  | .ie => n = 0xFFFF

/-- The router's partition: an address lies within the bounds of the region that owns it. -/
theorem regionOf_bounds (addr : Word) : (regionOf addr).Bounds addr.toNat := by
  have hlt := addr.isLt
  unfold regionOf
  generalize addr.toNat = n at hlt
  by_cases h1 : n < 0x4000
  · rw [if_pos h1]; exact h1
  rw [if_neg h1]
  by_cases h2 : n < 0x8000
  · rw [if_pos h2]; exact ⟨by omega, h2⟩
  rw [if_neg h2]
  by_cases h3 : n < 0xA000
  · rw [if_pos h3]; exact ⟨by omega, h3⟩
  rw [if_neg h3]
  by_cases h4 : n < 0xC000
  · rw [if_pos h4]; exact ⟨by omega, h4⟩
  rw [if_neg h4]
  by_cases h5 : n < 0xE000
  · rw [if_pos h5]; exact ⟨by omega, h5⟩
  rw [if_neg h5]
  by_cases h6 : n < 0xFE00
  · rw [if_pos h6]; exact ⟨by omega, h6⟩
  rw [if_neg h6]
  by_cases h7 : n < 0xFEA0
  · rw [if_pos h7]; exact ⟨by omega, h7⟩
  rw [if_neg h7]
  by_cases h8 : n < 0xFF00
  · rw [if_pos h8]; exact ⟨by omega, h8⟩
  rw [if_neg h8]
  by_cases h9 : n = 0xFF04
  · rw [if_pos h9]; exact h9
  rw [if_neg h9]
  by_cases h10 : n = 0xFF05
  · rw [if_pos h10]; exact h10
  rw [if_neg h10]
  by_cases h11 : n = 0xFF06
  · rw [if_pos h11]; exact h11
  rw [if_neg h11]
  by_cases h12 : n = 0xFF07
  · rw [if_pos h12]; exact h12
  rw [if_neg h12]
  by_cases h13 : n = 0xFF0F
  · rw [if_pos h13]; exact h13
  rw [if_neg h13]
  by_cases h14 : n < 0xFF80
  · rw [if_pos h14]; exact ⟨by omega, h14, h9, h10, h11, h12, h13⟩
  rw [if_neg h14]
  by_cases h15 : n < 0xFFFF
  · rw [if_pos h15]; exact ⟨by omega, h15⟩
  rw [if_neg h15]
  show n = 0xFFFF
  omega

/-! ## What a write changes -/

/-- A write to the cartridge window changes the three latches alone (20_memory R91, R121). -/
theorem cartWrite_eq (addr : Word) (v : Byte) (s : State) :
    cartWrite addr v s = { s with
      romBank := (cartWrite addr v s).romBank, ramBank := (cartWrite addr v s).ramBank
      ramEnable := (cartWrite addr v s).ramEnable } := by
  unfold cartWrite
  split
  · rfl
  · split_ifs <;> rfl

/-- Everything a byte write can change (20_memory R83): no register, no control state, no clock, no configuration. -/
theorem memWrite_eq (addr : Word) (v : Byte) (s : State) :
    memWrite addr v s = { s with
      ie := (memWrite addr v s).ie, irq := (memWrite addr v s).irq, div := (memWrite addr v s).div
      tima := (memWrite addr v s).tima, tma := (memWrite addr v s).tma, tac := (memWrite addr v s).tac
      tsub := (memWrite addr v s).tsub, romBank := (memWrite addr v s).romBank
      ramBank := (memWrite addr v s).ramBank, ramEnable := (memWrite addr v s).ramEnable
      wram := (memWrite addr v s).wram, hram := (memWrite addr v s).hram, io := (memWrite addr v s).io
      vram := (memWrite addr v s).vram, oam := (memWrite addr v s).oam, xram := (memWrite addr v s).xram } := by
  cases hr : regionOf addr <;> simp only [memWrite, hr] <;> first
    | rfl
    | exact cartWrite_eq addr v s ▸ rfl
    | (rw [cartWrite_eq addr v s])
    | (split <;> rfl)

@[simp] theorem memWrite_a (addr : Word) (v : Byte) (s : State) : (memWrite addr v s).a = s.a := by
  rw [memWrite_eq]
@[simp] theorem memWrite_f (addr : Word) (v : Byte) (s : State) : (memWrite addr v s).f = s.f := by
  rw [memWrite_eq]
@[simp] theorem memWrite_b (addr : Word) (v : Byte) (s : State) : (memWrite addr v s).b = s.b := by
  rw [memWrite_eq]
@[simp] theorem memWrite_c (addr : Word) (v : Byte) (s : State) : (memWrite addr v s).c = s.c := by
  rw [memWrite_eq]
@[simp] theorem memWrite_d (addr : Word) (v : Byte) (s : State) : (memWrite addr v s).d = s.d := by
  rw [memWrite_eq]
@[simp] theorem memWrite_e (addr : Word) (v : Byte) (s : State) : (memWrite addr v s).e = s.e := by
  rw [memWrite_eq]
@[simp] theorem memWrite_h (addr : Word) (v : Byte) (s : State) : (memWrite addr v s).h = s.h := by
  rw [memWrite_eq]
@[simp] theorem memWrite_l (addr : Word) (v : Byte) (s : State) : (memWrite addr v s).l = s.l := by
  rw [memWrite_eq]
@[simp] theorem memWrite_sp (addr : Word) (v : Byte) (s : State) : (memWrite addr v s).sp = s.sp := by
  rw [memWrite_eq]
@[simp] theorem memWrite_pc (addr : Word) (v : Byte) (s : State) : (memWrite addr v s).pc = s.pc := by
  rw [memWrite_eq]
@[simp] theorem memWrite_ime (addr : Word) (v : Byte) (s : State) : (memWrite addr v s).ime = s.ime := by
  rw [memWrite_eq]
@[simp] theorem memWrite_imePending (addr : Word) (v : Byte) (s : State) : (memWrite addr v s).imePending = s.imePending := by
  rw [memWrite_eq]
@[simp] theorem memWrite_haltBug (addr : Word) (v : Byte) (s : State) : (memWrite addr v s).haltBug = s.haltBug := by
  rw [memWrite_eq]
@[simp] theorem memWrite_mode (addr : Word) (v : Byte) (s : State) : (memWrite addr v s).mode = s.mode := by
  rw [memWrite_eq]
@[simp] theorem memWrite_fault (addr : Word) (v : Byte) (s : State) : (memWrite addr v s).fault = s.fault := by
  rw [memWrite_eq]
@[simp] theorem memWrite_clock (addr : Word) (v : Byte) (s : State) : (memWrite addr v s).clock = s.clock := by
  rw [memWrite_eq]
@[simp] theorem memWrite_cart (addr : Word) (v : Byte) (s : State) : (memWrite addr v s).cart = s.cart := by
  rw [memWrite_eq]
@[simp] theorem memWrite_cycles (addr : Word) (v : Byte) (s : State) : (memWrite addr v s).cycles = s.cycles := by
  rw [memWrite_eq]

@[simp] theorem memWrite16_a (addr v : Word) (s : State) : (memWrite16 addr v s).a = s.a := by
  simp [memWrite16]
@[simp] theorem memWrite16_f (addr v : Word) (s : State) : (memWrite16 addr v s).f = s.f := by
  simp [memWrite16]
@[simp] theorem memWrite16_b (addr v : Word) (s : State) : (memWrite16 addr v s).b = s.b := by
  simp [memWrite16]
@[simp] theorem memWrite16_c (addr v : Word) (s : State) : (memWrite16 addr v s).c = s.c := by
  simp [memWrite16]
@[simp] theorem memWrite16_d (addr v : Word) (s : State) : (memWrite16 addr v s).d = s.d := by
  simp [memWrite16]
@[simp] theorem memWrite16_e (addr v : Word) (s : State) : (memWrite16 addr v s).e = s.e := by
  simp [memWrite16]
@[simp] theorem memWrite16_h (addr v : Word) (s : State) : (memWrite16 addr v s).h = s.h := by
  simp [memWrite16]
@[simp] theorem memWrite16_l (addr v : Word) (s : State) : (memWrite16 addr v s).l = s.l := by
  simp [memWrite16]
@[simp] theorem memWrite16_sp (addr v : Word) (s : State) : (memWrite16 addr v s).sp = s.sp := by
  simp [memWrite16]
@[simp] theorem memWrite16_pc (addr v : Word) (s : State) : (memWrite16 addr v s).pc = s.pc := by
  simp [memWrite16]
@[simp] theorem memWrite16_ime (addr v : Word) (s : State) : (memWrite16 addr v s).ime = s.ime := by
  simp [memWrite16]
@[simp] theorem memWrite16_imePending (addr v : Word) (s : State) : (memWrite16 addr v s).imePending = s.imePending := by
  simp [memWrite16]
@[simp] theorem memWrite16_haltBug (addr v : Word) (s : State) : (memWrite16 addr v s).haltBug = s.haltBug := by
  simp [memWrite16]
@[simp] theorem memWrite16_mode (addr v : Word) (s : State) : (memWrite16 addr v s).mode = s.mode := by
  simp [memWrite16]
@[simp] theorem memWrite16_fault (addr v : Word) (s : State) : (memWrite16 addr v s).fault = s.fault := by
  simp [memWrite16]
@[simp] theorem memWrite16_clock (addr v : Word) (s : State) : (memWrite16 addr v s).clock = s.clock := by
  simp [memWrite16]
@[simp] theorem memWrite16_cart (addr v : Word) (s : State) : (memWrite16 addr v s).cart = s.cart := by
  simp [memWrite16]
@[simp] theorem memWrite16_cycles (addr v : Word) (s : State) : (memWrite16 addr v s).cycles = s.cycles := by
  simp [memWrite16]

@[simp] theorem push16_sp (v : Word) (s : State) : (push16 v s).sp = s.sp - 1#16 - 1#16 := by
  simp [push16]
@[simp] theorem push16_a (v : Word) (s : State) : (push16 v s).a = s.a := by
  simp [push16]
@[simp] theorem push16_f (v : Word) (s : State) : (push16 v s).f = s.f := by
  simp [push16]
@[simp] theorem push16_b (v : Word) (s : State) : (push16 v s).b = s.b := by
  simp [push16]
@[simp] theorem push16_c (v : Word) (s : State) : (push16 v s).c = s.c := by
  simp [push16]
@[simp] theorem push16_d (v : Word) (s : State) : (push16 v s).d = s.d := by
  simp [push16]
@[simp] theorem push16_e (v : Word) (s : State) : (push16 v s).e = s.e := by
  simp [push16]
@[simp] theorem push16_h (v : Word) (s : State) : (push16 v s).h = s.h := by
  simp [push16]
@[simp] theorem push16_l (v : Word) (s : State) : (push16 v s).l = s.l := by
  simp [push16]
@[simp] theorem push16_pc (v : Word) (s : State) : (push16 v s).pc = s.pc := by
  simp [push16]
@[simp] theorem push16_ime (v : Word) (s : State) : (push16 v s).ime = s.ime := by
  simp [push16]
@[simp] theorem push16_imePending (v : Word) (s : State) : (push16 v s).imePending = s.imePending := by
  simp [push16]
@[simp] theorem push16_haltBug (v : Word) (s : State) : (push16 v s).haltBug = s.haltBug := by
  simp [push16]
@[simp] theorem push16_mode (v : Word) (s : State) : (push16 v s).mode = s.mode := by
  simp [push16]
@[simp] theorem push16_fault (v : Word) (s : State) : (push16 v s).fault = s.fault := by
  simp [push16]
@[simp] theorem push16_clock (v : Word) (s : State) : (push16 v s).clock = s.clock := by
  simp [push16]
@[simp] theorem push16_cart (v : Word) (s : State) : (push16 v s).cart = s.cart := by
  simp [push16]
@[simp] theorem push16_cycles (v : Word) (s : State) : (push16 v s).cycles = s.cycles := by
  simp [push16]

/-! ## The invariant -/

/-- The memories right after reset are in canonical form, and so is the base cartridge's image. -/
theorem reset_memInv : State.reset.MemInv ∧ State.reset.cart.rom.wf (State.reset.cart.romBanks * romBankSize) = true := by
  decide

theorem selectRomBank_lt {n : Nat} (h : 1 ≤ n) (v : Byte) : selectRomBank n v < n := by
  unfold selectRomBank
  split <;> exact Nat.mod_lt _ (by omega)

theorem selectRamBank_lt (n : Nat) (v : Byte) : selectRamBank n v < max n 1 := by
  unfold selectRamBank
  split
  · exact Nat.lt_of_lt_of_le (Nat.mod_lt _ (by omega)) (Nat.le_max_left _ _)
  · omega

theorem Cartridge.romBanks_pos {k : Cartridge} (h : k.wellFormed = true) : 1 ≤ k.romBanks := by
  simp only [Cartridge.wellFormed, Bool.and_eq_true, decide_eq_true_eq] at h
  exact h.1.1

theorem cartWrite_bankInv {s : State} (addr : Word) (v : Byte) (hc : s.CartInv) (h : s.BankInv) :
    (cartWrite addr v s).BankInv := by
  obtain ⟨h1, h2, h3⟩ := h
  unfold cartWrite
  split
  · exact ⟨h1, h2, h3⟩
  · rename_i hm
    split_ifs
    · exact ⟨h1, h2, fun hn => by simp [hm] at hn⟩
    · exact ⟨selectRomBank_lt (Cartridge.romBanks_pos hc) v, h2, fun hn => by simp [hm] at hn⟩
    · exact ⟨h1, selectRamBank_lt _ v, fun hn => by simp [hm] at hn⟩
    · exact ⟨h1, h2, h3⟩

/-- A byte write keeps the latches' invariant (20_memory R132). -/
theorem memWrite_bankInv {s : State} (addr : Word) (v : Byte) (hc : s.CartInv) (h : s.BankInv) :
    (memWrite addr v s).BankInv := by
  cases hr : regionOf addr <;> simp only [memWrite, hr]
  case romFixed => exact cartWrite_bankInv addr v hc h
  case romBanked => exact cartWrite_bankInv addr v hc h
  case xram => split <;> exact h
  all_goals exact h

/-- The bank offset stays inside `XRAM` (20_memory R124). -/
theorem xramOffset_lt {s : State} {addr : Word} (hb : s.BankInv) (hon : xramOn s = true)
    (h : 0xA000 ≤ addr.toNat ∧ addr.toNat < 0xC000) : xramOffset s addr < s.cart.ramBanks * ramBankSize := by
  simp only [xramOn, Bool.and_eq_true, decide_eq_true_eq] at hon
  have h2 := hb.2.1
  have hlt : s.ramBank < s.cart.ramBanks := by omega
  unfold xramOffset ramWindow ramBankSize
  generalize addr.toNat = n at h
  have := Nat.mul_le_mul_right 0x2000 (Nat.succ_le_of_lt hlt)
  omega

/-- A byte write keeps every memory's canonical form and size. -/
theorem memWrite_memInv {s : State} (addr : Word) (v : Byte) (hb : s.BankInv) (h : s.MemInv) :
    (memWrite addr v s).MemInv := by
  obtain ⟨hw, hh, hi, hv, ho, hx, i4, i5, i6, i7, i15⟩ := h
  have hbd := regionOf_bounds addr
  cases hr : regionOf addr <;> simp only [hr, Region.Bounds] at hbd <;> simp only [memWrite, hr]
  case romFixed =>
    rw [cartWrite_eq]
    exact ⟨hw, hh, hi, hv, ho, hx, i4, i5, i6, i7, i15⟩
  case romBanked =>
    rw [cartWrite_eq]
    exact ⟨hw, hh, hi, hv, ho, hx, i4, i5, i6, i7, i15⟩
  case vram =>
    exact ⟨hw, hh, hi, Memory.wf_write v hv (by simp only [vramSize]; omega), ho, hx, i4, i5, i6, i7, i15⟩
  case xram =>
    split
    · rename_i hon
      exact ⟨hw, hh, hi, hv, ho, Memory.wf_write v hx (xramOffset_lt hb hon hbd), i4, i5, i6, i7, i15⟩
    · exact ⟨hw, hh, hi, hv, ho, hx, i4, i5, i6, i7, i15⟩
  case wram =>
    exact ⟨Memory.wf_write v hw (by simp only [wramSize]; omega), hh, hi, hv, ho, hx, i4, i5, i6, i7, i15⟩
  case echo =>
    exact ⟨Memory.wf_write v hw (by simp only [wramSize]; omega), hh, hi, hv, ho, hx, i4, i5, i6, i7, i15⟩
  case oam =>
    exact ⟨hw, hh, hi, hv, Memory.wf_write v ho (by simp only [oamSize]; omega), hx, i4, i5, i6, i7, i15⟩
  case io =>
    refine ⟨hw, hh, Memory.wf_write v hi (by simp only [ioSize]; omega), hv, ho, hx, ?_, ?_, ?_, ?_, ?_⟩
    · rw [Memory.read_write_other (by omega)]; exact i4
    · rw [Memory.read_write_other (by omega)]; exact i5
    · rw [Memory.read_write_other (by omega)]; exact i6
    · rw [Memory.read_write_other (by omega)]; exact i7
    · rw [Memory.read_write_other (by omega)]; exact i15
  case hram =>
    exact ⟨hw, Memory.wf_write v hh (by simp only [hramSize]; omega), hi, hv, ho, hx, i4, i5, i6, i7, i15⟩
  all_goals exact ⟨hw, hh, hi, hv, ho, hx, i4, i5, i6, i7, i15⟩

/-- A byte write leaves the prescaler or clears it (20_memory R117). -/
theorem memWrite_tsub (addr : Word) (v : Byte) (s : State) :
    (memWrite addr v s).tsub = s.tsub ∨ (memWrite addr v s).tsub = 0 := by
  unfold memWrite
  cases hr : regionOf addr
  case romFixed => exact Or.inl (by rw [cartWrite_eq])
  case romBanked => exact Or.inl (by rw [cartWrite_eq])
  case xram => dsimp only; split <;> exact Or.inl rfl
  case div => exact Or.inr rfl
  all_goals exact Or.inl rfl

/-- A byte write keeps the invariant. -/
theorem memWrite_inv {s : State} (addr : Word) (v : Byte) (h : s.Inv) : (memWrite addr v s).Inv := by
  obtain ⟨hf, hb, hm, hc, ht, hk⟩ := h
  refine ⟨?_, memWrite_bankInv addr v hk hb, memWrite_memInv addr v hb hm, ?_, ?_, ?_⟩
  · simpa [State.FlagsInv] using hf
  · simpa [State.ControlInv] using hc
  · rcases memWrite_tsub addr v s with h | h <;> simp only [State.TimerInv, h] at ht ⊢ <;> omega
  · simpa [State.CartInv] using hk

/-- A 16-bit write keeps the invariant. -/
theorem memWrite16_inv {s : State} (addr v : Word) (h : s.Inv) : (memWrite16 addr v s).Inv :=
  memWrite_inv _ _ (memWrite_inv _ _ h)

/-- A push keeps the invariant. -/
theorem push16_inv {s : State} (v : Word) (h : s.Inv) : (push16 v s).Inv := by
  unfold push16
  apply memWrite_inv
  exact memWrite_inv (s := { s with sp := s.sp - 1#16 }) _ _ h

/-! ## Reading back -/

/-- Reading never depends on a general register, the control state, `IE`'s owner, the clock or the cost (20_memory R82). -/
theorem memRead_congr {s t : State} (addr : Word) (hc : t.cart = s.cart) (hrb : t.romBank = s.romBank)
    (hab : t.ramBank = s.ramBank) (hen : t.ramEnable = s.ramEnable) (hvr : t.vram = s.vram) (hx : t.xram = s.xram)
    (hw : t.wram = s.wram) (ho : t.oam = s.oam) (hd : t.div = s.div) (hti : t.tima = s.tima) (htm : t.tma = s.tma)
    (hta : t.tac = s.tac) (hir : t.irq = s.irq) (hio : t.io = s.io) (hh : t.hram = s.hram) (hie : t.ie = s.ie) :
    memRead t addr = memRead s addr := by
  have h1 : romOffset t addr = romOffset s addr := by unfold romOffset; rw [hrb]
  have h2 : xramOffset t addr = xramOffset s addr := by unfold xramOffset; rw [hab]
  have h3 : xramOn t = xramOn s := by unfold xramOn; rw [hen, hc]
  unfold memRead
  rw [h1, h2, h3, hc, hvr, hx, hw, ho, hd, hti, htm, hta, hir, hio, hh, hie]

end Sys2Proof.Machine
end

