-- ==== Sys2Proof/Laws/Timer.lean ====
section
/-! SUPPORT. The timer and the end of a step: what `tick` and `finish` change, and that they keep the invariant. -/

namespace Sys2Proof.Machine

open Sys2Proof

/-- The loop changes the prescaler, the counter and the request flags alone. -/
theorem tickLoop_eq (period : Nat) : ∀ (fuel : Nat) (s : State) (n : Nat),
    (tickLoop fuel period s n).1 = { s with
      tsub := (tickLoop fuel period s n).1.tsub, tima := (tickLoop fuel period s n).1.tima
      irq := (tickLoop fuel period s n).1.irq }
  | 0, _, _ => rfl
  | fuel + 1, s, n => by
    simp only [tickLoop]
    split
    · rw [tickLoop_eq period fuel]
      unfold timaIncrement
      split <;> rfl
    · rfl

/-- With enough fuel the loop leaves the remainder of the prescaler (60_exceptions R446). -/
theorem tickLoop_tsub {period : Nat} (hp : 0 < period) : ∀ (fuel : Nat) (s : State) (n : Nat), s.tsub ≤ fuel →
    (tickLoop fuel period s n).1.tsub = s.tsub % period
  | 0, s, n, h => by
    have : s.tsub = 0 := by omega
    simp [tickLoop, this]
  | fuel + 1, s, n, h => by
    simp only [tickLoop]
    split
    · rename_i hle
      have ht : ∀ u : State, (timaIncrement u).1.tsub = u.tsub := by
        intro u
        unfold timaIncrement
        split <;> rfl
      rw [tickLoop_tsub hp fuel _ _ (by rw [ht]; show s.tsub - period ≤ fuel; omega), ht]
      show (s.tsub - period) % period = s.tsub % period
      rw [Nat.mod_eq_sub_mod hle]
    · rename_i hlt
      exact (Nat.mod_eq_of_lt (Nat.lt_of_not_le hlt)).symm

theorem timerPeriod_pos (tac : BitVec 3) : 0 < timerPeriod tac := by
  unfold timerPeriod
  split <;> decide

theorem timerPeriod_le (tac : BitVec 3) : timerPeriod tac ≤ 1024 := by
  unfold timerPeriod
  split <;> decide

/-- Everything `tick` changes (60_exceptions R440, R446). -/
theorem tick_eq (c : Nat) (s : State) : tick c s = { s with
    div := (tick c s).div, tsub := (tick c s).tsub, tima := (tick c s).tima, irq := (tick c s).irq } := by
  unfold tick tickCount
  dsimp only
  split
  · rw [tickLoop_eq]
  · rfl

/-- The prescaler after a tick: below the period when the counter is enabled, kept when it is not (60_exceptions R443,
R446). -/
theorem tick_tsub (c : Nat) (s : State) :
    (tick c s).tsub = if s.tac.getLsbD 2 then (s.tsub + c) % timerPeriod s.tac else s.tsub := by
  unfold tick tickCount
  dsimp only
  split
  · exact tickLoop_tsub (timerPeriod_pos _) _ _ _ (Nat.le_refl _)
  · rfl

/-- Everything `finish` changes (60_exceptions R400). -/
theorem finish_eq (s : State) : finish s = { s with
    clock := s.clock + s.cycles, div := (finish s).div, tsub := (finish s).tsub, tima := (finish s).tima
    irq := (finish s).irq } := by
  unfold finish
  rw [tick_eq]

@[simp] theorem tick_a (c : Nat) (s : State) : (tick c s).a = s.a := by
  rw [tick_eq]
@[simp] theorem tick_f (c : Nat) (s : State) : (tick c s).f = s.f := by
  rw [tick_eq]
@[simp] theorem tick_b (c : Nat) (s : State) : (tick c s).b = s.b := by
  rw [tick_eq]
@[simp] theorem tick_c (c : Nat) (s : State) : (tick c s).c = s.c := by
  rw [tick_eq]
@[simp] theorem tick_d (c : Nat) (s : State) : (tick c s).d = s.d := by
  rw [tick_eq]
@[simp] theorem tick_e (c : Nat) (s : State) : (tick c s).e = s.e := by
  rw [tick_eq]
@[simp] theorem tick_h (c : Nat) (s : State) : (tick c s).h = s.h := by
  rw [tick_eq]
@[simp] theorem tick_l (c : Nat) (s : State) : (tick c s).l = s.l := by
  rw [tick_eq]
@[simp] theorem tick_sp (c : Nat) (s : State) : (tick c s).sp = s.sp := by
  rw [tick_eq]
@[simp] theorem tick_pc (c : Nat) (s : State) : (tick c s).pc = s.pc := by
  rw [tick_eq]
@[simp] theorem tick_ime (c : Nat) (s : State) : (tick c s).ime = s.ime := by
  rw [tick_eq]
@[simp] theorem tick_imePending (c : Nat) (s : State) : (tick c s).imePending = s.imePending := by
  rw [tick_eq]
@[simp] theorem tick_haltBug (c : Nat) (s : State) : (tick c s).haltBug = s.haltBug := by
  rw [tick_eq]
@[simp] theorem tick_mode (c : Nat) (s : State) : (tick c s).mode = s.mode := by
  rw [tick_eq]
@[simp] theorem tick_fault (c : Nat) (s : State) : (tick c s).fault = s.fault := by
  rw [tick_eq]
@[simp] theorem tick_ie (c : Nat) (s : State) : (tick c s).ie = s.ie := by
  rw [tick_eq]
@[simp] theorem tick_tma (c : Nat) (s : State) : (tick c s).tma = s.tma := by
  rw [tick_eq]
@[simp] theorem tick_tac (c : Nat) (s : State) : (tick c s).tac = s.tac := by
  rw [tick_eq]
@[simp] theorem tick_romBank (c : Nat) (s : State) : (tick c s).romBank = s.romBank := by
  rw [tick_eq]
@[simp] theorem tick_ramBank (c : Nat) (s : State) : (tick c s).ramBank = s.ramBank := by
  rw [tick_eq]
@[simp] theorem tick_ramEnable (c : Nat) (s : State) : (tick c s).ramEnable = s.ramEnable := by
  rw [tick_eq]
@[simp] theorem tick_wram (c : Nat) (s : State) : (tick c s).wram = s.wram := by
  rw [tick_eq]
@[simp] theorem tick_hram (c : Nat) (s : State) : (tick c s).hram = s.hram := by
  rw [tick_eq]
@[simp] theorem tick_io (c : Nat) (s : State) : (tick c s).io = s.io := by
  rw [tick_eq]
@[simp] theorem tick_vram (c : Nat) (s : State) : (tick c s).vram = s.vram := by
  rw [tick_eq]
@[simp] theorem tick_oam (c : Nat) (s : State) : (tick c s).oam = s.oam := by
  rw [tick_eq]
@[simp] theorem tick_xram (c : Nat) (s : State) : (tick c s).xram = s.xram := by
  rw [tick_eq]
@[simp] theorem tick_cart (c : Nat) (s : State) : (tick c s).cart = s.cart := by
  rw [tick_eq]
@[simp] theorem tick_cycles (c : Nat) (s : State) : (tick c s).cycles = s.cycles := by
  rw [tick_eq]
@[simp] theorem tick_clock (c : Nat) (s : State) : (tick c s).clock = s.clock := by
  rw [tick_eq]

@[simp] theorem finish_a (s : State) : (finish s).a = s.a := by
  rw [finish_eq]
@[simp] theorem finish_f (s : State) : (finish s).f = s.f := by
  rw [finish_eq]
@[simp] theorem finish_b (s : State) : (finish s).b = s.b := by
  rw [finish_eq]
@[simp] theorem finish_c (s : State) : (finish s).c = s.c := by
  rw [finish_eq]
@[simp] theorem finish_d (s : State) : (finish s).d = s.d := by
  rw [finish_eq]
@[simp] theorem finish_e (s : State) : (finish s).e = s.e := by
  rw [finish_eq]
@[simp] theorem finish_h (s : State) : (finish s).h = s.h := by
  rw [finish_eq]
@[simp] theorem finish_l (s : State) : (finish s).l = s.l := by
  rw [finish_eq]
@[simp] theorem finish_sp (s : State) : (finish s).sp = s.sp := by
  rw [finish_eq]
@[simp] theorem finish_pc (s : State) : (finish s).pc = s.pc := by
  rw [finish_eq]
@[simp] theorem finish_ime (s : State) : (finish s).ime = s.ime := by
  rw [finish_eq]
@[simp] theorem finish_imePending (s : State) : (finish s).imePending = s.imePending := by
  rw [finish_eq]
@[simp] theorem finish_haltBug (s : State) : (finish s).haltBug = s.haltBug := by
  rw [finish_eq]
@[simp] theorem finish_mode (s : State) : (finish s).mode = s.mode := by
  rw [finish_eq]
@[simp] theorem finish_fault (s : State) : (finish s).fault = s.fault := by
  rw [finish_eq]
@[simp] theorem finish_ie (s : State) : (finish s).ie = s.ie := by
  rw [finish_eq]
@[simp] theorem finish_tma (s : State) : (finish s).tma = s.tma := by
  rw [finish_eq]
@[simp] theorem finish_tac (s : State) : (finish s).tac = s.tac := by
  rw [finish_eq]
@[simp] theorem finish_romBank (s : State) : (finish s).romBank = s.romBank := by
  rw [finish_eq]
@[simp] theorem finish_ramBank (s : State) : (finish s).ramBank = s.ramBank := by
  rw [finish_eq]
@[simp] theorem finish_ramEnable (s : State) : (finish s).ramEnable = s.ramEnable := by
  rw [finish_eq]
@[simp] theorem finish_wram (s : State) : (finish s).wram = s.wram := by
  rw [finish_eq]
@[simp] theorem finish_hram (s : State) : (finish s).hram = s.hram := by
  rw [finish_eq]
@[simp] theorem finish_io (s : State) : (finish s).io = s.io := by
  rw [finish_eq]
@[simp] theorem finish_vram (s : State) : (finish s).vram = s.vram := by
  rw [finish_eq]
@[simp] theorem finish_oam (s : State) : (finish s).oam = s.oam := by
  rw [finish_eq]
@[simp] theorem finish_xram (s : State) : (finish s).xram = s.xram := by
  rw [finish_eq]
@[simp] theorem finish_cart (s : State) : (finish s).cart = s.cart := by
  rw [finish_eq]
@[simp] theorem finish_cycles (s : State) : (finish s).cycles = s.cycles := by
  rw [finish_eq]
@[simp] theorem finish_clock (s : State) : (finish s).clock = s.clock + s.cycles := by
  rw [finish_eq]

theorem finish_inv {s : State} (h : s.Inv) : (finish s).Inv := by
  obtain ⟨hf, hb, hm, hc, ht, hk⟩ := h
  refine ⟨?_, ?_, ?_, ?_, ?_, ?_⟩
  · simpa [State.FlagsInv] using hf
  · simpa [State.BankInv] using hb
  · simpa [State.MemInv] using hm
  · simpa [State.ControlInv] using hc
  · have : (finish s).tsub = if s.tac.getLsbD 2 then (s.tsub + s.cycles) % timerPeriod s.tac else s.tsub :=
      tick_tsub s.cycles { s with clock := s.clock + s.cycles }
    simp only [State.TimerInv, this]
    split
    · exact Nat.lt_of_lt_of_le (Nat.mod_lt _ (timerPeriod_pos _)) (timerPeriod_le _)
    · exact ht
  · simpa [State.CartInv] using hk

end Sys2Proof.Machine
end

