-- ==== Sys2Proof/Laws/Step.lean ====
section
/-! SUPPORT. What a step can do, said once, and that the effect of every form keeps the invariant. -/

namespace Sys2Proof.Machine

open Sys2Proof

/-! ## The four kinds of step (60_exceptions R400, R401) -/

/-- The state an instruction step ends in. -/
def instructionEnd (s : State) : State :=
  finish (promoteIme s.imePending (Laws.Form.run (fetchInstr s).form (afterFetch (opLength (fetchOpcode s)) s)))

/-- Part (5) always answers a next state. -/
theorem runInstruction_eq (s : State) : runInstruction s =
    .next (if isUndefined (fetchOpcode s) then Laws.Form.run (fetchInstr s).form s else instructionEnd s) := by
  unfold runInstruction instructionEnd
  split <;> simp [Laws.exec_eq_run, afterInstruction]

/-- Everything a step that answers a next state can do. -/
theorem step_next_cases {s t : State} (h : step s = .next t) :
    s.mode ≠ .faulted ∧
    (((wake s).mode ≠ .running ∧ t = idle s) ∨
     (∃ k, (wake s).mode = .running ∧ (wake s).ime = true ∧ highestPending (pendingSet (wake s)) = some k ∧
        t = finish (service k (wake s))) ∨
     ((wake s).mode = .running ∧ isUndefined (fetchOpcode (wake s)) = true ∧
        t = Laws.Form.run (fetchInstr (wake s)).form (wake s)) ∨
     ((wake s).mode = .running ∧ isUndefined (fetchOpcode (wake s)) = false ∧ t = instructionEnd (wake s))) := by
  unfold step stepMachine at h
  split at h
  · cases h
  · rename_i hm
    refine ⟨hm, ?_⟩
    split at h
    · rename_i hw
      have run : ∀ {u : State}, u.mode = .running → runInstruction u = .next t →
          (isUndefined (fetchOpcode u) = true ∧ t = Laws.Form.run (fetchInstr u).form u) ∨
          (isUndefined (fetchOpcode u) = false ∧ t = instructionEnd u) := by
        intro u _ hr
        rw [runInstruction_eq] at hr
        have hr' := Host.Outcome.next.inj hr
        split at hr'
        · exact Or.inl ⟨by assumption, hr'.symm⟩
        · rename_i hu
          exact Or.inr ⟨by simpa using hu, hr'.symm⟩
      unfold serviceOrRun at h
      split at h
      · rename_i hime
        split at h
        · rename_i k hk
          exact Or.inr (Or.inl ⟨k, hw, hime, hk, (Host.Outcome.next.inj h).symm⟩)
        · rcases run hw h with ⟨hu, ht⟩ | ⟨hu, ht⟩
          · exact Or.inr (Or.inr (Or.inl ⟨hw, hu, ht⟩))
          · exact Or.inr (Or.inr (Or.inr ⟨hw, hu, ht⟩))
      · rcases run hw h with ⟨hu, ht⟩ | ⟨hu, ht⟩
        · exact Or.inr (Or.inr (Or.inl ⟨hw, hu, ht⟩))
        · exact Or.inr (Or.inr (Or.inr ⟨hw, hu, ht⟩))
    · rename_i hw
      exact Or.inl ⟨hw, (Host.Outcome.next.inj h).symm⟩

/-- A step ends in a fault exactly on a faulted machine, and is never refused (60_exceptions R406, R407). -/
theorem step_total (s : State) :
    (s.mode = .faulted ∧ step s = .fault (.unimplementedOpcode s.fault)) ∨
    (s.mode ≠ .faulted ∧ ∃ t, step s = .next t) := by
  unfold step stepMachine
  split
  · exact Or.inl ⟨by assumption, rfl⟩
  · rename_i hm
    refine Or.inr ⟨hm, ?_⟩
    split
    · unfold serviceOrRun
      split
      · split
        · exact ⟨_, rfl⟩
        · exact ⟨_, runInstruction_eq _⟩
      · exact ⟨_, runInstruction_eq _⟩
    · exact ⟨_, rfl⟩

/-! ## The invariant, operation by operation -/

/-- Writing a register keeps the invariant. -/
theorem setReg_inv {s : State} (r : Reg8) (v : Byte) (h : s.Inv) : (setReg r v s).Inv := by
  cases r <;> exact h

/-- Writing an 8-bit operand keeps the invariant. -/
theorem setOpnd_inv {s : State} (o : Opnd) (v : Byte) (h : s.Inv) : (setOpnd o v s).Inv := by
  cases o
  · exact setReg_inv _ v h
  · exact memWrite_inv _ v h

/-- Writing a pair keeps the invariant. -/
theorem setPair_inv {s : State} (p : Pair) (v : Word) (h : s.Inv) : (setPair p v s).Inv := by
  cases p <;> exact h

/-- A new flag register with its low four bits clear keeps the invariant. -/
theorem setFlags_inv {s : State} {f : Byte} (hf : f &&& 0x0F#8 = 0#8) (h : s.Inv) : State.Inv { s with f := f } :=
  ⟨hf, h.2⟩

/-- A pop into a pair keeps the invariant. -/
theorem setStackPair_inv {s : State} (p : StackPair) (v : Word) (h : s.Inv) : (setStackPair p v s).Inv := by
  cases p
  case af => exact ⟨popFlags_low _, h.2⟩
  all_goals exact h

/-- The invariant says nothing of the registers, `SP`, `PC`, the enables, the clock or the cost. -/
theorem inv_pc {s : State} (v : Word) (h : s.Inv) : State.Inv { s with pc := v } := h

/-- A CB-page entry keeps the invariant. -/
theorem cbEntry_inv {s : State} (op2 : Byte) (h : s.Inv) : (cbEntry op2 s).Inv := by
  have h' : ∀ (n : Nat) {u : State}, u.Inv → (withCost n u).Inv := fun _ _ hu => hu
  unfold cbEntry
  split
  · exact h' _ (setFlags_inv (packF_low _ _ _ _) (setOpnd_inv _ _ h))
  · exact h' _ (setFlags_inv (packF_low _ _ _ _) h)
  · exact h' _ (setOpnd_inv _ _ h)
  · exact h' _ (setOpnd_inv _ _ h)

/-- The effect of every form keeps the invariant, from a running state with no halt quirk armed. -/
theorem run_inv {s : State} (f : Form) (h : s.Inv) (hm : s.mode = .running) (hq : s.haltBug = false) :
    (Laws.Form.run f s).Inv := by
  have hc : ∀ (n : Nat) {u : State}, u.Inv → (withCost n u).Inv := fun _ _ hu => hu
  have hj : ∀ (n : Nat) (v : Word) {u : State}, u.Inv → (jumpTo n v u).Inv := fun _ _ _ hu => hu
  have hl : ∀ (v : Word) {u : State}, u.Inv → (setHl v u).Inv := fun _ _ hu => hu
  have hr : ∀ {u : State}, u.Inv → (returnPc u).Inv := fun hu => hu
  have hn : s.fault.isSome = true → False := fun hf => by
    have := h.2.2.2.1.1.2 hf
    rw [hm] at this
    cases this
  cases f
  case ldRegReg => exact hc _ (setReg_inv _ _ h)
  case ldRegImm => exact hc _ (setReg_inv _ _ h)
  case ldRegMem => exact hc _ (setReg_inv _ _ h)
  case ldMemReg => exact hc _ (memWrite_inv _ _ h)
  case ldMemImm => exact hc _ (memWrite_inv _ _ h)
  case ldBcA => exact hc _ (memWrite_inv _ _ h)
  case ldDeA => exact hc _ (memWrite_inv _ _ h)
  case ldNnA => exact hc _ (memWrite_inv _ _ h)
  case ldhCA => exact hc _ (memWrite_inv _ _ h)
  case ldhNA => exact hc _ (memWrite_inv _ _ h)
  case ldDecA => exact hc _ (hl _ (memWrite_inv _ _ h))
  case ldIncA => exact hc _ (hl _ (memWrite_inv _ _ h))
  case ldPairImm => exact hc _ (setPair_inv _ _ h)
  case ldNnSp => exact hc _ (memWrite16_inv _ _ h)
  case ldHlSp => exact hc _ (setFlags_inv (spPlus_low _ _) (hl _ h))
  case push => exact hc _ (push16_inv _ h)
  case pop => exact hc _ (setStackPair_inv (s := popState s) _ _ h)
  case alu op src =>
    have : State.Inv { s with a := (aluResult op s.a (getSrc src s) s.f).1 } := h
    exact hc _ (setFlags_inv (aluResult_low _ _ _ _) this)
  case inc => exact hc _ (setFlags_inv (incByte_low _ _) (setOpnd_inv _ _ h))
  case dec => exact hc _ (setFlags_inv (decByte_low _ _) (setOpnd_inv _ _ h))
  case daa =>
    have : State.Inv { s with a := (daaByte s.a s.f).1 } := h
    exact hc _ (setFlags_inv (daaByte_low _ _) this)
  case cpl =>
    have : State.Inv { s with a := ~~~s.a } := h
    exact hc _ (setFlags_inv (packF_low _ _ _ _) this)
  case scf => exact hc _ (setFlags_inv (packF_low _ _ _ _) h)
  case ccf => exact hc _ (setFlags_inv (packF_low _ _ _ _) h)
  case addHl => exact hc _ (setFlags_inv (addWords_low _ _ _) (hl _ h))
  case incPair => exact hc _ (setPair_inv _ _ h)
  case decPair => exact hc _ (setPair_inv _ _ h)
  case addSp e =>
    have : State.Inv { s with sp := (spPlus s.sp e).1 } := h
    exact hc _ (setFlags_inv (spPlus_low _ _) this)
  case rlca => exact ⟨packF_low _ _ _ _, h.2⟩
  case rrca => exact ⟨packF_low _ _ _ _, h.2⟩
  case rla => exact ⟨packF_low _ _ _ _, h.2⟩
  case rra => exact ⟨packF_low _ _ _ _, h.2⟩
  case rot => exact hc _ (setFlags_inv (packF_low _ _ _ _) (setOpnd_inv _ _ h))
  case bit => exact hc _ (setFlags_inv (packF_low _ _ _ _) h)
  case res => exact hc _ (setOpnd_inv _ _ h)
  case set => exact hc _ (setOpnd_inv _ _ h)
  case jpCond =>
    unfold Laws.Form.run jpCond
    dsimp only
    split
    · exact hj _ _ h
    · exact hc _ h
  case jrCond =>
    unfold Laws.Form.run jrCond
    dsimp only
    split
    · exact hj _ _ h
    · exact hc _ h
  case call => exact hj _ _ (push16_inv _ h)
  case callCond =>
    unfold Laws.Form.run callCond
    dsimp only
    split
    · exact hj _ _ (push16_inv _ h)
    · exact hc _ h
  case retCond =>
    unfold Laws.Form.run retCond
    dsimp only
    split
    · exact hc _ (hr h)
    · exact hc _ h
  case rst => exact hj _ _ (push16_inv _ h)
  case halt =>
    unfold Laws.Form.run haltOp
    refine hc _ ?_
    split
    · exact ⟨h.1, h.2.1, h.2.2.1, ⟨h.2.2.2.1.1, fun _ => Or.inl hm⟩, h.2.2.2.2⟩
    · refine ⟨h.1, h.2.1, h.2.2.1, ⟨⟨fun hx => (by cases hx), fun hx => absurd hx (fun hf => hn hf)⟩, fun hx => ?_⟩,
        h.2.2.2.2⟩
      simp [hq] at hx
  case stop =>
    refine ⟨h.1, h.2.1, h.2.2.1, ⟨⟨fun hx => (by cases hx), fun hx => absurd hx (fun hf => hn hf)⟩, fun hx => ?_⟩,
      h.2.2.2.2⟩
    have : s.haltBug = true := hx
    simp [hq] at this
  case prefixCb => exact cbEntry_inv _ (s := { s with pc := s.pc + 1#16 }) h
  case illegal => exact ⟨h.1, h.2.1, h.2.2.1, ⟨⟨fun _ => rfl, fun _ => rfl⟩, fun _ => Or.inr rfl⟩, h.2.2.2.2⟩
  all_goals exact h

/-- Waking up keeps the invariant (60_exceptions R437). -/
theorem wake_inv {s : State} (h : s.Inv) : (wake s).Inv := by
  have hh : ∀ {m : Mode}, s.mode = m → m ≠ .faulted → State.Inv { s with mode := .running } := by
    intro m hm hne
    refine ⟨h.1, h.2.1, h.2.2.1, ⟨⟨fun hx => (by cases hx), fun hx => ?_⟩, fun _ => Or.inl rfl⟩, h.2.2.2.2⟩
    exact absurd (hm ▸ h.2.2.2.1.1.2 hx) hne
  unfold wake
  split
  · exact h
  · rename_i hm
    split
    · exact hh hm (by decide)
    · exact h
  · rename_i hm
    split
    · exact hh hm (by decide)
    · exact h
  · exact h

/-- Interrupt service keeps the invariant. -/
theorem service_inv {s : State} (k : Source) (h : s.Inv) : (service k s).Inv := by
  have h0 : State.Inv { s with ime := false, imePending := false, haltBug := false } :=
    ⟨h.1, h.2.1, h.2.2.1, ⟨h.2.2.2.1.1, fun hx => (by cases hx)⟩, h.2.2.2.2⟩
  have h1 := push16_inv s.pc h0
  unfold service
  generalize push16 s.pc { s with ime := false, imePending := false, haltBug := false } = u at h1
  exact h1

end Sys2Proof.Machine
end

