-- ==== Sys2Proof/Tests/Slice0.lean ====
section
/-! SUPPORT. Tests of our own, each on one word or one step: well-formedness refuses each ill-formed term, words written out
from the encoding matrices decode, vectors of 95_test_vectors, and witnesses that meet the hypotheses of the statements. -/

namespace Sys2Proof.Tests

open Sys2Proof Sys2Proof.Machine Sys2Proof.Claims

/-- `s` with `PC` at `pc`, the bytes `bs` there, and the bytes of `cells` at their addresses. -/
def placed (pc : Word) (bs : List Byte) (cells : List (Word × Byte)) (s : State) : State :=
  let code := bs.zipIdx.map (fun x => (pc + BitVec.ofNat 16 x.2, x.1))
  (code ++ cells).foldl (fun u x => placeByte x.1 x.2 u) { s with pc := pc }

/-- One step answers a next state with the property. -/
def endsIn (s : State) (p : State → Prop) [DecidablePred p] : Bool :=
  match step s with
  | .next t => decide (p t)
  | _ => false

/-- The instruction a byte list starts with, and how many bytes are left. -/
def firstOf (bytes : List Byte) : Option (Instr × Nat) :=
  match decode bytes with
  | .ok (i, rest) => some (i, rest.length)
  | .error _ => none

/-- A banked cartridge with four ROM banks and two RAM banks. -/
def banked : Cartridge :=
  { mapper := .banked, romBanks := 4, ramBanks := 2, battery := true, rom := [] }

/-! ## Well-formedness -/

/-- The prefix byte alone is not an instruction (30_encoding R185); every other one is. -/
theorem smoke_prefix : Instr.prefixCb.wellFormed = false ∧ Instr.nop.wellFormed = true := by decide

/-- A cartridge has at least one ROM bank (00_scope R10). -/
theorem smoke_rom_banks : Cartridge.wellFormed { banked with romBanks := 0 } = false := by decide

/-- `NoMapper` has exactly two ROM banks (00_scope R10). -/
theorem smoke_no_mapper : Cartridge.wellFormed { Cartridge.base with romBanks := 3 } = false := by decide

/-- An image byte lies inside the image (00_scope R12). -/
theorem smoke_image_size : Cartridge.wellFormed { Cartridge.base with rom := [(0x8000, 0x01#8)] } = false := by decide

/-- An image keeps the canonical form: no listed zero byte, indices rising. -/
theorem smoke_image_form : Cartridge.wellFormed { Cartridge.base with rom := [(5, 0x00#8)] } = false ∧
    Cartridge.wellFormed { Cartridge.base with rom := [(5, 0x01#8), (4, 0x01#8)] } = false := by decide

/-- The cartridges used here are well-formed. -/
theorem smoke_well_formed : Cartridge.base.wellFormed = true ∧ banked.wellFormed = true := by decide

/-! ## Decoding: words written out bit by bit from 30_encoding R178 to R181 -/

/-- LD B,C is 01 000 001. -/
theorem decode_ld_r_r : firstOf [0b01000001#8] = some (.ldBC, 0) := by decide

/-- LD (HL),A is 01 110 111. -/
theorem decode_ld_r_mem : firstOf [0b01110111#8] = some (.ldMemHlA, 0) := by decide

/-- LD A,n is 00 111 110, n. -/
theorem decode_ld_r_n : firstOf [0b00111110#8, 0x42#8] = some (.ldAN 0x42#8, 0) := by decide

/-- LD A,(DE) is 00 011 010. -/
theorem decode_ld_a_mem_de : firstOf [0b00011010#8] = some (.ldAMemDe, 0) := by decide

/-- LDH (n),A is 11 100 000, n. -/
theorem decode_ldh : firstOf [0b11100000#8, 0x80#8] = some (.ldhMemNA 0x80#8, 0) := by decide

/-- LD (HL-),A is 00 110 010. -/
theorem decode_ld_mem_dec : firstOf [0b00110010#8] = some (.ldMemHlDecA, 0) := by decide

/-- LD SP,nn is 00 11 0001, low byte, high byte. -/
theorem decode_ld_pair : firstOf [0b00110001#8, 0xFE#8, 0xFF#8] = some (.ldSpNn 0xFFFE#16, 0) := by decide

/-- PUSH AF is 11 11 0101. -/
theorem decode_push_af : firstOf [0b11110101#8] = some (.pushAf, 0) := by decide

/-- POP HL is 11 10 0001. -/
theorem decode_pop_hl : firstOf [0b11100001#8] = some (.popHl, 0) := by decide

/-- ADC A,(HL) is 10 001 110. -/
theorem decode_adc : firstOf [0b10001110#8] = some (.adcAMemHl, 0) := by decide

/-- CP n is 11 111 110, n. -/
theorem decode_cp_n : firstOf [0b11111110#8, 0x90#8] = some (.cpN 0x90#8, 0) := by decide

/-- INC (HL) is 00 110 100. -/
theorem decode_inc_mem : firstOf [0b00110100#8] = some (.incMemHl, 0) := by decide

/-- DEC HL is 00 10 1011. -/
theorem decode_dec_pair : firstOf [0b00101011#8] = some (.decHl, 0) := by decide

/-- ADD HL,SP is 00 11 1001. -/
theorem decode_add_hl : firstOf [0b00111001#8] = some (.addHlSp, 0) := by decide

/-- ADD SP,e is 11 101 000, e. -/
theorem decode_add_sp : firstOf [0b11101000#8, 0xFE#8] = some (.addSpE 0xFE#8, 0) := by decide

/-- RRA is 00 011 111. -/
theorem decode_rra : firstOf [0b00011111#8] = some (.rra, 0) := by decide

/-- SWAP A is CB, 00 110 111. -/
theorem decode_swap : firstOf [0xCB#8, 0b00110111#8] = some (.swapA, 0) := by decide

/-- BIT 7,H is CB, 01 111 100. -/
theorem decode_bit : firstOf [0xCB#8, 0b01111100#8] = some (.bit7H, 0) := by decide

/-- RES 0,(HL) is CB, 10 000 110. -/
theorem decode_res : firstOf [0xCB#8, 0b10000110#8] = some (.res0MemHl, 0) := by decide

/-- SET 1,E is CB, 11 001 011. -/
theorem decode_set : firstOf [0xCB#8, 0b11001011#8] = some (.set1E, 0) := by decide

/-- JR Z,e is 001 01 000, e. -/
theorem decode_jr_cc : firstOf [0b00101000#8, 0xFD#8] = some (.jrZE 0xFD#8, 0) := by decide

/-- CALL C,nn is 110 11 100, low byte, high byte. -/
theorem decode_call_cc : firstOf [0b11011100#8, 0x23#8, 0xD1#8] = some (.callCNn 0xD123#16, 0) := by decide

/-- RETI is 11 011 001. -/
theorem decode_reti : firstOf [0b11011001#8] = some (.reti, 0) := by decide

/-- RST 0x28 is 11 101 111. -/
theorem decode_rst : firstOf [0b11101111#8] = some (.rst28, 0) := by decide

/-- HALT is 01 110 110. -/
theorem decode_halt : firstOf [0b01110110#8] = some (.halt, 0) := by decide

/-- EI is 11 111 011. -/
theorem decode_ei : firstOf [0b11111011#8] = some (.ei, 0) := by decide

/-- 0xDD is undefined (30_encoding R182). -/
theorem decode_undefined : firstOf [0b11011101#8] = some (.illegalDD, 0) := by decide

/-- STOP is 00 010 000 with an ignored byte. -/
theorem decode_stop : firstOf [0b00010000#8, 0xD3#8] = some (.stop 0xD3#8, 0) := by decide

/-- A word that is too short is refused, with the length its first byte asks for. -/
theorem decode_truncated : decode [0xCD#8, 0x23#8] = .error (.truncated 3 2) := rfl

/-- The prefix byte alone is the table's row PREFIX CB (log entry 6). -/
theorem decode_prefix : firstOf [0xCB#8] = some (.prefixCb, 0) := by decide

/-- The words of the opcode table are numbered from the first byte up (log entry 7). -/
theorem decode_table_word : decodeTableWord 16 0x37CB = some .swapA ∧ decodeTableWord 8 0x76 = some .halt := by decide

/-! ## Vectors of 95_test_vectors, one step each -/

/-- 95_test_vectors L8.1: LD B,C. -/
theorem test_l8_1 : endsIn
    (placed 0xC000#16 [0x41#8] []
      State.reset)
    (fun t => t.b = 0x13#8 ∧ t.pc = 0xC001#16 ∧ t.cycles = 4) = true := by decide

/-- 95_test_vectors L8.4: LD A,0xFF. -/
theorem test_l8_4 : endsIn
    (placed 0xC000#16 [0x3E#8, 0xFF#8] []
      State.reset)
    (fun t => t.a = 0xFF#8 ∧ t.pc = 0xC002#16 ∧ t.cycles = 8) = true := by decide

/-- 95_test_vectors L8.6: LD H,(HL). -/
theorem test_l8_6 : endsIn
    (placed 0xC000#16 [0x66#8] [(0xC100#16, 0x5A#8)]
      { State.reset with h := 0xC1#8, l := 0x00#8 })
    (fun t => t.h = 0x5A#8 ∧ t.pc = 0xC001#16 ∧ t.cycles = 8) = true := by decide

/-- 95_test_vectors L8.10: LD (HL),L. -/
theorem test_l8_10 : endsIn
    (placed 0xC000#16 [0x75#8] []
      { State.reset with h := 0xC2#8, l := 0x34#8 })
    (fun t => t.pc = 0xC001#16 ∧ memRead t 0xC234#16 = 0x34#8 ∧ t.cycles = 8) = true := by decide

/-- 95_test_vectors L8.14: LD (HL),0x42. -/
theorem test_l8_14 : endsIn
    (placed 0xC000#16 [0x36#8, 0x42#8] []
      { State.reset with h := 0xC0#8, l := 0x00#8 })
    (fun t => t.pc = 0xC002#16 ∧ memRead t 0xC000#16 = 0x42#8 ∧ t.cycles = 12) = true := by decide

/-- 95_test_vectors L8.15: LD (HL),0x99. -/
theorem test_l8_15 : endsIn
    (placed 0xC000#16 [0x36#8, 0x99#8] []
      { State.reset with h := 0xFF#8, l := 0x04#8, div := 0xABCD#16, tima := 0x55#8, tsub := 9 })
    (fun t => t.pc = 0xC002#16 ∧ t.tima = 0x00#8 ∧ t.div = 0x000C#16 ∧ t.tsub = 0 ∧ t.clock = 12 ∧ t.cycles = 12) = true := by decide

/-- 95_test_vectors L8.16: LD A,(BC). -/
theorem test_l8_16 : endsIn
    (placed 0xC000#16 [0x0A#8] [(0xC080#16, 0x11#8)]
      { State.reset with b := 0xC0#8, c := 0x80#8 })
    (fun t => t.a = 0x11#8 ∧ t.pc = 0xC001#16 ∧ t.cycles = 8) = true := by decide

/-- 95_test_vectors L8.17: LD A,(DE). -/
theorem test_l8_17 : endsIn
    (placed 0xC000#16 [0x1A#8] [(0xFF85#16, 0x22#8)]
      { State.reset with d := 0xFF#8, e := 0x85#8 })
    (fun t => t.a = 0x22#8 ∧ t.pc = 0xC001#16 ∧ t.cycles = 8) = true := by decide

/-- 95_test_vectors L8.18: LD (BC),A. -/
theorem test_l8_18 : endsIn
    (placed 0xC000#16 [0x02#8] []
      { State.reset with b := 0x80#8, c := 0x00#8, a := 0x33#8 })
    (fun t => t.pc = 0xC001#16 ∧ memRead t 0x8000#16 = 0x33#8 ∧ t.cycles = 8) = true := by decide

/-- 95_test_vectors L8.19: LD (DE),A. -/
theorem test_l8_19 : endsIn
    (placed 0xC000#16 [0x12#8] []
      { State.reset with d := 0xFE#8, e := 0x9F#8, a := 0x44#8 })
    (fun t => t.pc = 0xC001#16 ∧ memRead t 0xFE9F#16 = 0x44#8 ∧ t.cycles = 8) = true := by decide

/-- 95_test_vectors L8.20: LD A,(0xFF04). -/
theorem test_l8_20 : endsIn
    (placed 0xC000#16 [0xFA#8, 0x04#8, 0xFF#8] []
      { State.reset with div := 0x1234#16 })
    (fun t => t.a = 0x12#8 ∧ t.pc = 0xC003#16 ∧ t.cycles = 16) = true := by decide

/-- 95_test_vectors L8.22: LD (0xE000),A. -/
theorem test_l8_22 : endsIn
    (placed 0xC000#16 [0xEA#8, 0x00#8, 0xE0#8] []
      { State.reset with a := 0x9C#8 })
    (fun t => t.pc = 0xC003#16 ∧ memRead t 0xC000#16 = 0x9C#8 ∧ t.cycles = 16) = true := by decide

/-- 95_test_vectors L8.24: LDH A,(C). -/
theorem test_l8_24 : endsIn
    (placed 0xC000#16 [0xF2#8] []
      { State.reset with c := 0x0F#8, irq := 0x1F#5 })
    (fun t => t.a = 0xFF#8 ∧ t.pc = 0xC001#16 ∧ t.cycles = 8) = true := by decide

/-- 95_test_vectors L8.26: LDH (C),A. -/
theorem test_l8_26 : endsIn
    (placed 0xC000#16 [0xE2#8] []
      { State.reset with c := 0xFF#8, a := 0x15#8 })
    (fun t => t.pc = 0xC001#16 ∧ t.ie = 0x15#8 ∧ t.cycles = 8) = true := by decide

/-- 95_test_vectors L8.28: LDH A,(0x00). -/
theorem test_l8_28 : endsIn
    (placed 0xC000#16 [0xF0#8, 0x00#8] [(0xFF00#16, 0xCF#8)]
      State.reset)
    (fun t => t.a = 0xCF#8 ∧ t.pc = 0xC002#16 ∧ t.cycles = 12) = true := by decide

/-- 95_test_vectors L8.30: LDH (0x0F),A. -/
theorem test_l8_30 : endsIn
    (placed 0xC000#16 [0xE0#8, 0x0F#8] []
      { State.reset with a := 0xFF#8 })
    (fun t => t.pc = 0xC002#16 ∧ t.irq = 0x1F#5 ∧ t.cycles = 12) = true := by decide

/-- 95_test_vectors L8.32: LDH (0x05),A. -/
theorem test_l8_32 : endsIn
    (placed 0xC000#16 [0xE0#8, 0x05#8] []
      { State.reset with a := 0x80#8, tsub := 7, tac := 5#3 })
    (fun t => t.pc = 0xC002#16 ∧ t.tima = 0x81#8 ∧ t.div = 0x000C#16 ∧ t.tsub = 3 ∧ t.clock = 12 ∧ t.cycles = 12) = true := by decide

/-- 95_test_vectors L8.33: LD A,(HL-). -/
theorem test_l8_33 : endsIn
    (placed 0xC000#16 [0x3A#8] [(0x0000#16, 0x31#8)]
      { State.reset with h := 0x00#8, l := 0x00#8 })
    (fun t => t.a = 0x31#8 ∧ t.h = 0xFF#8 ∧ t.l = 0xFF#8 ∧ t.pc = 0xC001#16 ∧ t.cycles = 8) = true := by decide

/-- 95_test_vectors L8.34: LD (HL-),A. -/
theorem test_l8_34 : endsIn
    (placed 0xC000#16 [0x32#8] []
      { State.reset with h := 0xC0#8, l := 0x00#8, a := 0x55#8 })
    (fun t => t.h = 0xBF#8 ∧ t.l = 0xFF#8 ∧ t.pc = 0xC001#16 ∧ memRead t 0xC000#16 = 0x55#8 ∧ t.cycles = 8) = true := by decide

/-- 95_test_vectors L8.35: LD A,(HL+). -/
theorem test_l8_35 : endsIn
    (placed 0xC000#16 [0x2A#8] []
      { State.reset with h := 0xFF#8, l := 0xFF#8, ie := 0x1B#8 })
    (fun t => t.a = 0x1B#8 ∧ t.h = 0x00#8 ∧ t.l = 0x00#8 ∧ t.pc = 0xC001#16 ∧ t.cycles = 8) = true := by decide

/-- 95_test_vectors L8.36: LD (HL+),A. -/
theorem test_l8_36 : endsIn
    (placed 0xC000#16 [0x22#8] []
      { State.reset with h := 0xFF#8, l := 0xFF#8, a := 0x07#8 })
    (fun t => t.h = 0x00#8 ∧ t.l = 0x00#8 ∧ t.pc = 0xC001#16 ∧ t.ie = 0x07#8 ∧ t.cycles = 8) = true := by decide

/-- 95_test_vectors L16.1: LD BC,0x1234. -/
theorem test_l16_1 : endsIn
    (placed 0xC000#16 [0x01#8, 0x34#8, 0x12#8] []
      State.reset)
    (fun t => t.b = 0x12#8 ∧ t.c = 0x34#8 ∧ t.pc = 0xC003#16 ∧ t.cycles = 12) = true := by decide

/-- 95_test_vectors L16.4: LD (0xC100),SP. -/
theorem test_l16_4 : endsIn
    (placed 0xC000#16 [0x08#8, 0x00#8, 0xC1#8] []
      { State.reset with sp := 0xABCD#16 })
    (fun t => t.pc = 0xC003#16 ∧ memRead t 0xC100#16 = 0xCD#8 ∧ memRead t 0xC101#16 = 0xAB#8 ∧ t.cycles = 20) = true := by decide

/-- 95_test_vectors L16.5: LD (0xFFFF),SP. -/
theorem test_l16_5 : endsIn
    (placed 0xC000#16 [0x08#8, 0xFF#8, 0xFF#8] []
      { State.reset with sp := 0x1F0A#16 })
    (fun t => t.pc = 0xC003#16 ∧ t.ie = 0x0A#8 ∧ t.cycles = 20) = true := by decide

/-- 95_test_vectors L16.7: LD SP,HL. -/
theorem test_l16_7 : endsIn
    (placed 0xC000#16 [0xF9#8] []
      { State.reset with h := 0xC8#8, l := 0x00#8 })
    (fun t => t.sp = 0xC800#16 ∧ t.pc = 0xC001#16 ∧ t.cycles = 8) = true := by decide

/-- 95_test_vectors L16.8: LD HL,SP+0x02. -/
theorem test_l16_8 : endsIn
    (placed 0xC000#16 [0xF8#8, 0x02#8] []
      { State.reset with sp := 0xFFF8#16, f := 0xF0#8 })
    (fun t => t.f = 0x00#8 ∧ t.h = 0xFF#8 ∧ t.l = 0xFA#8 ∧ t.pc = 0xC002#16 ∧ t.cycles = 12) = true := by decide

/-- 95_test_vectors L16.11: LD HL,SP-1. -/
theorem test_l16_11 : endsIn
    (placed 0xC000#16 [0xF8#8, 0xFF#8] []
      { State.reset with sp := 0x00FF#16, f := 0x00#8 })
    (fun t => t.f = 0x30#8 ∧ t.h = 0x00#8 ∧ t.l = 0xFE#8 ∧ t.pc = 0xC002#16 ∧ t.cycles = 12) = true := by decide

/-- 95_test_vectors L16.14: PUSH BC. -/
theorem test_l16_14 : endsIn
    (placed 0xC000#16 [0xC5#8] []
      { State.reset with b := 0x12#8, c := 0x34#8, sp := 0xD000#16 })
    (fun t => t.sp = 0xCFFE#16 ∧ t.pc = 0xC001#16 ∧ memRead t 0xCFFE#16 = 0x34#8 ∧ memRead t 0xCFFF#16 = 0x12#8 ∧ t.cycles =
      16) = true := by decide

/-- 95_test_vectors L16.17: PUSH HL. -/
theorem test_l16_17 : endsIn
    (placed 0xC000#16 [0xE5#8] []
      { State.reset with h := 0x77#8, l := 0xEE#8, sp := 0xFF06#16, div := 0x1234#16, tsub := 5, tima := 0x01#8 })
    (fun t => t.sp = 0xFF04#16 ∧ t.pc = 0xC001#16 ∧ t.tima = 0x00#8 ∧ t.div = 0x0010#16 ∧ t.tsub = 0 ∧ t.clock = 16 ∧ t.cycles
      = 16) = true := by decide

/-- 95_test_vectors L16.18: POP BC. -/
theorem test_l16_18 : endsIn
    (placed 0xC000#16 [0xC1#8] [(0xD000#16, 0x34#8), (0xD001#16, 0x12#8)]
      { State.reset with sp := 0xD000#16 })
    (fun t => t.b = 0x12#8 ∧ t.c = 0x34#8 ∧ t.sp = 0xD002#16 ∧ t.pc = 0xC001#16 ∧ t.cycles = 12) = true := by decide

/-- 95_test_vectors L16.19: POP AF. -/
theorem test_l16_19 : endsIn
    (placed 0xC000#16 [0xF1#8] [(0xD000#16, 0xFF#8), (0xD001#16, 0x12#8)]
      { State.reset with sp := 0xD000#16 })
    (fun t => t.a = 0x12#8 ∧ t.f = 0xF0#8 ∧ t.sp = 0xD002#16 ∧ t.pc = 0xC001#16 ∧ t.cycles = 12) = true := by decide

/-- 95_test_vectors L16.21: POP HL. -/
theorem test_l16_21 : endsIn
    (placed 0xC000#16 [0xE1#8] [(0x0000#16, 0xC3#8)]
      { State.reset with sp := 0xFFFF#16, ie := 0x0B#8 })
    (fun t => t.h = 0xC3#8 ∧ t.l = 0x0B#8 ∧ t.sp = 0x0001#16 ∧ t.pc = 0xC001#16 ∧ t.cycles = 12) = true := by decide

/-- 95_test_vectors A8.1: ADD A,B. -/
theorem test_a8_1 : endsIn
    (placed 0xC000#16 [0x80#8] []
      { State.reset with a := 0x3A#8, b := 0xC6#8, f := 0x00#8 })
    (fun t => t.a = 0x00#8 ∧ t.f = 0xB0#8 ∧ t.pc = 0xC001#16 ∧ t.cycles = 4) = true := by decide

/-- 95_test_vectors A8.5: ADD A,0x00. -/
theorem test_a8_5 : endsIn
    (placed 0xC000#16 [0xC6#8, 0x00#8] []
      { State.reset with a := 0x00#8, f := 0x70#8 })
    (fun t => t.f = 0x80#8 ∧ t.pc = 0xC002#16 ∧ t.cycles = 8) = true := by decide

/-- 95_test_vectors A8.6: ADD A,(HL). -/
theorem test_a8_6 : endsIn
    (placed 0xC000#16 [0x86#8] [(0xC100#16, 0x7F#8)]
      { State.reset with a := 0x01#8, h := 0xC1#8, l := 0x00#8, f := 0x10#8 })
    (fun t => t.a = 0x80#8 ∧ t.f = 0x20#8 ∧ t.pc = 0xC001#16 ∧ t.cycles = 8) = true := by decide

/-- 95_test_vectors A8.7: ADC A,B. -/
theorem test_a8_7 : endsIn
    (placed 0xC000#16 [0x88#8] []
      { State.reset with a := 0x0F#8, b := 0x00#8, f := 0x10#8 })
    (fun t => t.a = 0x10#8 ∧ t.f = 0x20#8 ∧ t.pc = 0xC001#16 ∧ t.cycles = 4) = true := by decide

/-- 95_test_vectors A8.10: ADC A,0x0F. -/
theorem test_a8_10 : endsIn
    (placed 0xC000#16 [0xCE#8, 0x0F#8] []
      { State.reset with a := 0x00#8, f := 0x10#8 })
    (fun t => t.a = 0x10#8 ∧ t.f = 0x20#8 ∧ t.pc = 0xC002#16 ∧ t.cycles = 8) = true := by decide

/-- 95_test_vectors A8.12: SUB B. -/
theorem test_a8_12 : endsIn
    (placed 0xC000#16 [0x90#8] []
      { State.reset with a := 0x10#8, b := 0x01#8, f := 0x00#8 })
    (fun t => t.a = 0x0F#8 ∧ t.f = 0x60#8 ∧ t.pc = 0xC001#16 ∧ t.cycles = 4) = true := by decide

/-- 95_test_vectors A8.15: SUB 0x0F. -/
theorem test_a8_15 : endsIn
    (placed 0xC000#16 [0xD6#8, 0x0F#8] []
      { State.reset with a := 0x3E#8, f := 0x00#8 })
    (fun t => t.a = 0x2F#8 ∧ t.f = 0x60#8 ∧ t.pc = 0xC002#16 ∧ t.cycles = 8) = true := by decide

/-- 95_test_vectors A8.16: SBC A,B. -/
theorem test_a8_16 : endsIn
    (placed 0xC000#16 [0x98#8] []
      { State.reset with a := 0x00#8, b := 0xFF#8, f := 0x10#8 })
    (fun t => t.f = 0xF0#8 ∧ t.pc = 0xC001#16 ∧ t.cycles = 4) = true := by decide

/-- 95_test_vectors A8.20: SBC A,0x00. -/
theorem test_a8_20 : endsIn
    (placed 0xC000#16 [0xDE#8, 0x00#8] []
      { State.reset with a := 0x00#8, f := 0x10#8 })
    (fun t => t.a = 0xFF#8 ∧ t.f = 0x70#8 ∧ t.pc = 0xC002#16 ∧ t.cycles = 8) = true := by decide

/-- 95_test_vectors A8.21: AND B. -/
theorem test_a8_21 : endsIn
    (placed 0xC000#16 [0xA0#8] []
      { State.reset with a := 0x5A#8, b := 0x3F#8, f := 0x50#8 })
    (fun t => t.a = 0x1A#8 ∧ t.f = 0x20#8 ∧ t.pc = 0xC001#16 ∧ t.cycles = 4) = true := by decide

/-- 95_test_vectors A8.22: AND 0x00. -/
theorem test_a8_22 : endsIn
    (placed 0xC000#16 [0xE6#8, 0x00#8] []
      { State.reset with a := 0xFF#8, f := 0x10#8 })
    (fun t => t.a = 0x00#8 ∧ t.f = 0xA0#8 ∧ t.pc = 0xC002#16 ∧ t.cycles = 8) = true := by decide

/-- 95_test_vectors A8.24: XOR A. -/
theorem test_a8_24 : endsIn
    (placed 0xC000#16 [0xAF#8] []
      { State.reset with a := 0xFF#8, f := 0xF0#8 })
    (fun t => t.a = 0x00#8 ∧ t.f = 0x80#8 ∧ t.pc = 0xC001#16 ∧ t.cycles = 4) = true := by decide

/-- 95_test_vectors A8.25: XOR 0x0F. -/
theorem test_a8_25 : endsIn
    (placed 0xC000#16 [0xEE#8, 0x0F#8] []
      { State.reset with a := 0xFF#8, f := 0xF0#8 })
    (fun t => t.a = 0xF0#8 ∧ t.f = 0x00#8 ∧ t.pc = 0xC002#16 ∧ t.cycles = 8) = true := by decide

/-- 95_test_vectors A8.26: OR B. -/
theorem test_a8_26 : endsIn
    (placed 0xC000#16 [0xB0#8] []
      { State.reset with a := 0x00#8, b := 0x00#8, f := 0x70#8 })
    (fun t => t.f = 0x80#8 ∧ t.pc = 0xC001#16 ∧ t.cycles = 4) = true := by decide

/-- 95_test_vectors A8.27: OR (HL). -/
theorem test_a8_27 : endsIn
    (placed 0xC000#16 [0xB6#8] [(0xC100#16, 0x0F#8)]
      { State.reset with a := 0x5A#8, h := 0xC1#8, l := 0x00#8, f := 0xF0#8 })
    (fun t => t.a = 0x5F#8 ∧ t.f = 0x00#8 ∧ t.pc = 0xC001#16 ∧ t.cycles = 8) = true := by decide

/-- 95_test_vectors A8.28: CP B. -/
theorem test_a8_28 : endsIn
    (placed 0xC000#16 [0xB8#8] []
      { State.reset with a := 0x3C#8, b := 0x2F#8, f := 0x00#8 })
    (fun t => t.f = 0x60#8 ∧ t.pc = 0xC001#16 ∧ t.cycles = 4) = true := by decide

/-- 95_test_vectors A8.29: CP 0x3C. -/
theorem test_a8_29 : endsIn
    (placed 0xC000#16 [0xFE#8, 0x3C#8] []
      { State.reset with a := 0x3C#8, f := 0x00#8 })
    (fun t => t.f = 0xC0#8 ∧ t.pc = 0xC002#16 ∧ t.cycles = 8) = true := by decide

/-- 95_test_vectors A8.30: CP (HL). -/
theorem test_a8_30 : endsIn
    (placed 0xC000#16 [0xBE#8] [(0xC100#16, 0x40#8)]
      { State.reset with a := 0x3C#8, h := 0xC1#8, l := 0x00#8, f := 0x00#8 })
    (fun t => t.f = 0x50#8 ∧ t.pc = 0xC001#16 ∧ t.cycles = 8) = true := by decide

/-- 95_test_vectors A8.31: INC A. -/
theorem test_a8_31 : endsIn
    (placed 0xC000#16 [0x3C#8] []
      { State.reset with a := 0xFF#8, f := 0x10#8 })
    (fun t => t.a = 0x00#8 ∧ t.f = 0xB0#8 ∧ t.pc = 0xC001#16 ∧ t.cycles = 4) = true := by decide

/-- 95_test_vectors A8.34: INC (HL). -/
theorem test_a8_34 : endsIn
    (placed 0xC000#16 [0x34#8] [(0xC100#16, 0xFF#8)]
      { State.reset with h := 0xC1#8, l := 0x00#8, f := 0x00#8 })
    (fun t => t.f = 0xA0#8 ∧ t.pc = 0xC001#16 ∧ memRead t 0xC100#16 = 0x00#8 ∧ t.cycles = 12) = true := by decide

/-- 95_test_vectors A8.35: INC (HL). -/
theorem test_a8_35 : endsIn
    (placed 0xC000#16 [0x34#8] [(0x0100#16, 0x0F#8)]
      { State.reset with h := 0x01#8, l := 0x00#8, f := 0x00#8 })
    (fun t => t.f = 0x20#8 ∧ t.pc = 0xC001#16 ∧ t.cycles = 12) = true := by decide

/-- 95_test_vectors A8.36: DEC B. -/
theorem test_a8_36 : endsIn
    (placed 0xC000#16 [0x05#8] []
      { State.reset with b := 0x01#8, f := 0x10#8 })
    (fun t => t.f = 0xD0#8 ∧ t.b = 0x00#8 ∧ t.pc = 0xC001#16 ∧ t.cycles = 4) = true := by decide

/-- 95_test_vectors A8.39: DEC (HL). -/
theorem test_a8_39 : endsIn
    (placed 0xC000#16 [0x35#8] [(0xFF80#16, 0x00#8)]
      { State.reset with h := 0xFF#8, l := 0x80#8, f := 0x00#8 })
    (fun t => t.f = 0x60#8 ∧ t.pc = 0xC001#16 ∧ memRead t 0xFF80#16 = 0xFF#8 ∧ t.cycles = 12) = true := by decide

/-- 95_test_vectors A8.40: DAA. -/
theorem test_a8_40 : endsIn
    (placed 0xC000#16 [0x27#8] []
      { State.reset with a := 0x7D#8, f := 0x00#8 })
    (fun t => t.a = 0x83#8 ∧ t.pc = 0xC001#16 ∧ t.cycles = 4) = true := by decide

/-- 95_test_vectors A8.42: DAA. -/
theorem test_a8_42 : endsIn
    (placed 0xC000#16 [0x27#8] []
      { State.reset with a := 0x00#8, f := 0x00#8 })
    (fun t => t.f = 0x80#8 ∧ t.pc = 0xC001#16 ∧ t.cycles = 4) = true := by decide

/-- 95_test_vectors A8.48: CPL. -/
theorem test_a8_48 : endsIn
    (placed 0xC000#16 [0x2F#8] []
      { State.reset with a := 0x35#8, f := 0x90#8 })
    (fun t => t.a = 0xCA#8 ∧ t.f = 0xF0#8 ∧ t.pc = 0xC001#16 ∧ t.cycles = 4) = true := by decide

/-- 95_test_vectors A8.49: SCF. -/
theorem test_a8_49 : endsIn
    (placed 0xC000#16 [0x37#8] []
      { State.reset with f := 0xE0#8 })
    (fun t => t.f = 0x90#8 ∧ t.pc = 0xC001#16 ∧ t.cycles = 4) = true := by decide

/-- 95_test_vectors A8.50: CCF. -/
theorem test_a8_50 : endsIn
    (placed 0xC000#16 [0x3F#8] []
      { State.reset with f := 0xF0#8 })
    (fun t => t.f = 0x80#8 ∧ t.pc = 0xC001#16 ∧ t.cycles = 4) = true := by decide

/-- 95_test_vectors A16.1: ADD HL,BC. -/
theorem test_a16_1 : endsIn
    (placed 0xC000#16 [0x09#8] []
      { State.reset with h := 0x0F#8, l := 0xFF#8, b := 0x00#8, c := 0x01#8, f := 0x80#8 })
    (fun t => t.f = 0xA0#8 ∧ t.h = 0x10#8 ∧ t.l = 0x00#8 ∧ t.pc = 0xC001#16 ∧ t.cycles = 8) = true := by decide

/-- 95_test_vectors A16.6: INC BC. -/
theorem test_a16_6 : endsIn
    (placed 0xC000#16 [0x03#8] []
      { State.reset with b := 0xFF#8, c := 0xFF#8, f := 0x00#8 })
    (fun t => t.b = 0x00#8 ∧ t.c = 0x00#8 ∧ t.pc = 0xC001#16 ∧ t.cycles = 8) = true := by decide

/-- 95_test_vectors A16.9: DEC SP. -/
theorem test_a16_9 : endsIn
    (placed 0xC000#16 [0x3B#8] []
      { State.reset with sp := 0x0000#16, f := 0x00#8 })
    (fun t => t.sp = 0xFFFF#16 ∧ t.pc = 0xC001#16 ∧ t.cycles = 8) = true := by decide

/-- 95_test_vectors A16.12: ADD SP,0x02. -/
theorem test_a16_12 : endsIn
    (placed 0xC000#16 [0xE8#8, 0x02#8] []
      { State.reset with sp := 0xFFF8#16, f := 0xF0#8 })
    (fun t => t.f = 0x00#8 ∧ t.sp = 0xFFFA#16 ∧ t.pc = 0xC002#16 ∧ t.cycles = 16) = true := by decide

/-- 95_test_vectors A16.15: ADD SP,-1. -/
theorem test_a16_15 : endsIn
    (placed 0xC000#16 [0xE8#8, 0xFF#8] []
      { State.reset with sp := 0x0000#16, f := 0x00#8 })
    (fun t => t.sp = 0xFFFF#16 ∧ t.pc = 0xC002#16 ∧ t.cycles = 16) = true := by decide

/-- 95_test_vectors RS.1: RLCA. -/
theorem test_rs_1 : endsIn
    (placed 0xC000#16 [0x07#8] []
      { State.reset with a := 0x80#8, f := 0xE0#8 })
    (fun t => t.a = 0x01#8 ∧ t.f = 0x10#8 ∧ t.pc = 0xC001#16 ∧ t.cycles = 4) = true := by decide

/-- 95_test_vectors RS.3: RRCA. -/
theorem test_rs_3 : endsIn
    (placed 0xC000#16 [0x0F#8] []
      { State.reset with a := 0x01#8, f := 0x00#8 })
    (fun t => t.a = 0x80#8 ∧ t.f = 0x10#8 ∧ t.pc = 0xC001#16 ∧ t.cycles = 4) = true := by decide

/-- 95_test_vectors RS.5: RLA. -/
theorem test_rs_5 : endsIn
    (placed 0xC000#16 [0x17#8] []
      { State.reset with a := 0x80#8, f := 0x00#8 })
    (fun t => t.a = 0x00#8 ∧ t.f = 0x10#8 ∧ t.pc = 0xC001#16 ∧ t.cycles = 4) = true := by decide

/-- 95_test_vectors RS.7: RRA. -/
theorem test_rs_7 : endsIn
    (placed 0xC000#16 [0x1F#8] []
      { State.reset with a := 0x01#8, f := 0x00#8 })
    (fun t => t.a = 0x00#8 ∧ t.f = 0x10#8 ∧ t.pc = 0xC001#16 ∧ t.cycles = 4) = true := by decide

/-- 95_test_vectors RS.9: RLC B. -/
theorem test_rs_9 : endsIn
    (placed 0xC000#16 [0xCB#8, 0x00#8] []
      { State.reset with b := 0x85#8, f := 0x00#8 })
    (fun t => t.f = 0x10#8 ∧ t.b = 0x0B#8 ∧ t.pc = 0xC002#16 ∧ t.cycles = 8) = true := by decide

/-- 95_test_vectors RS.11: RLC (HL). -/
theorem test_rs_11 : endsIn
    (placed 0xC000#16 [0xCB#8, 0x06#8] [(0xC100#16, 0x80#8)]
      { State.reset with h := 0xC1#8, l := 0x00#8, f := 0x00#8 })
    (fun t => t.f = 0x10#8 ∧ t.pc = 0xC002#16 ∧ memRead t 0xC100#16 = 0x01#8 ∧ t.cycles = 16) = true := by decide

/-- 95_test_vectors RS.12: RRC C. -/
theorem test_rs_12 : endsIn
    (placed 0xC000#16 [0xCB#8, 0x09#8] []
      { State.reset with c := 0x01#8, f := 0x00#8 })
    (fun t => t.f = 0x10#8 ∧ t.c = 0x80#8 ∧ t.pc = 0xC002#16 ∧ t.cycles = 8) = true := by decide

/-- 95_test_vectors RS.13: RL D. -/
theorem test_rs_13 : endsIn
    (placed 0xC000#16 [0xCB#8, 0x12#8] []
      { State.reset with d := 0x80#8, f := 0x00#8 })
    (fun t => t.f = 0x90#8 ∧ t.d = 0x00#8 ∧ t.pc = 0xC002#16 ∧ t.cycles = 8) = true := by decide

/-- 95_test_vectors RS.15: RR E. -/
theorem test_rs_15 : endsIn
    (placed 0xC000#16 [0xCB#8, 0x1B#8] []
      { State.reset with e := 0x01#8, f := 0x00#8 })
    (fun t => t.f = 0x90#8 ∧ t.e = 0x00#8 ∧ t.pc = 0xC002#16 ∧ t.cycles = 8) = true := by decide

/-- 95_test_vectors RS.17: SLA H. -/
theorem test_rs_17 : endsIn
    (placed 0xC000#16 [0xCB#8, 0x24#8] []
      { State.reset with h := 0x80#8, f := 0x00#8 })
    (fun t => t.f = 0x90#8 ∧ t.h = 0x00#8 ∧ t.pc = 0xC002#16 ∧ t.cycles = 8) = true := by decide

/-- 95_test_vectors RS.19: SRA L. -/
theorem test_rs_19 : endsIn
    (placed 0xC000#16 [0xCB#8, 0x2D#8] []
      { State.reset with l := 0x81#8, f := 0x00#8 })
    (fun t => t.f = 0x10#8 ∧ t.l = 0xC0#8 ∧ t.pc = 0xC002#16 ∧ t.cycles = 8) = true := by decide

/-- 95_test_vectors RS.21: SWAP A. -/
theorem test_rs_21 : endsIn
    (placed 0xC000#16 [0xCB#8, 0x37#8] []
      { State.reset with a := 0xF1#8, f := 0xF0#8 })
    (fun t => t.a = 0x1F#8 ∧ t.f = 0x00#8 ∧ t.pc = 0xC002#16 ∧ t.cycles = 8) = true := by decide

/-- 95_test_vectors RS.23: SWAP (HL). -/
theorem test_rs_23 : endsIn
    (placed 0xC000#16 [0xCB#8, 0x36#8] [(0xC100#16, 0x5A#8)]
      { State.reset with h := 0xC1#8, l := 0x00#8, f := 0x00#8 })
    (fun t => t.pc = 0xC002#16 ∧ memRead t 0xC100#16 = 0xA5#8 ∧ t.cycles = 16) = true := by decide

/-- 95_test_vectors RS.24: SRL A. -/
theorem test_rs_24 : endsIn
    (placed 0xC000#16 [0xCB#8, 0x3F#8] []
      { State.reset with a := 0x01#8, f := 0x00#8 })
    (fun t => t.a = 0x00#8 ∧ t.f = 0x90#8 ∧ t.pc = 0xC002#16 ∧ t.cycles = 8) = true := by decide

/-- 95_test_vectors RS.26: BIT 7,H. -/
theorem test_rs_26 : endsIn
    (placed 0xC000#16 [0xCB#8, 0x7C#8] []
      { State.reset with h := 0x80#8, f := 0x10#8 })
    (fun t => t.f = 0x30#8 ∧ t.pc = 0xC002#16 ∧ t.cycles = 8) = true := by decide

/-- 95_test_vectors RS.28: BIT 0,(HL). -/
theorem test_rs_28 : endsIn
    (placed 0xC000#16 [0xCB#8, 0x46#8] []
      { State.reset with h := 0xFF#8, l := 0x0F#8, irq := 0x01#5, f := 0x00#8 })
    (fun t => t.f = 0x20#8 ∧ t.pc = 0xC002#16 ∧ t.cycles = 12) = true := by decide

/-- 95_test_vectors RS.29: BIT 5,(HL). -/
theorem test_rs_29 : endsIn
    (placed 0xC000#16 [0xCB#8, 0x6E#8] []
      { State.reset with h := 0xFF#8, l := 0x0F#8, irq := 0x00#5, f := 0x00#8 })
    (fun t => t.f = 0x20#8 ∧ t.pc = 0xC002#16 ∧ t.cycles = 12) = true := by decide

/-- 95_test_vectors RS.30: RES 0,(HL). -/
theorem test_rs_30 : endsIn
    (placed 0xC000#16 [0xCB#8, 0x86#8] []
      { State.reset with h := 0xFF#8, l := 0x0F#8, irq := 0x05#5, f := 0xF0#8 })
    (fun t => t.pc = 0xC002#16 ∧ t.irq = 0x04#5 ∧ t.cycles = 16) = true := by decide

/-- 95_test_vectors RS.31: RES 7,A. -/
theorem test_rs_31 : endsIn
    (placed 0xC000#16 [0xCB#8, 0xBF#8] []
      { State.reset with a := 0xFF#8, f := 0x00#8 })
    (fun t => t.a = 0x7F#8 ∧ t.pc = 0xC002#16 ∧ t.cycles = 8) = true := by decide

/-- 95_test_vectors RS.33: SET 7,A. -/
theorem test_rs_33 : endsIn
    (placed 0xC000#16 [0xCB#8, 0xFF#8] []
      { State.reset with a := 0x00#8, f := 0xF0#8 })
    (fun t => t.a = 0x80#8 ∧ t.pc = 0xC002#16 ∧ t.cycles = 8) = true := by decide

/-- 95_test_vectors RS.34: SET 2,(HL). -/
theorem test_rs_34 : endsIn
    (placed 0xC000#16 [0xCB#8, 0xD6#8] []
      { State.reset with h := 0xFF#8, l := 0x07#8, tac := 1#3 })
    (fun t => t.pc = 0xC002#16 ∧ t.tima = 0x01#8 ∧ t.tac = 5#3 ∧ t.cycles = 16) = true := by decide

/-- 95_test_vectors CT.1: JP 0x1234. -/
theorem test_ct_1 : endsIn
    (placed 0xC000#16 [0xC3#8, 0x34#8, 0x12#8] []
      State.reset)
    (fun t => t.pc = 0x1234#16 ∧ t.cycles = 16) = true := by decide

/-- 95_test_vectors CT.2: JP NZ,0xD000. -/
theorem test_ct_2 : endsIn
    (placed 0xC000#16 [0xC2#8, 0x00#8, 0xD0#8] []
      { State.reset with f := 0x00#8 })
    (fun t => t.pc = 0xD000#16 ∧ t.cycles = 16) = true := by decide

/-- 95_test_vectors CT.3: JP NZ,0xD000. -/
theorem test_ct_3 : endsIn
    (placed 0xC000#16 [0xC2#8, 0x00#8, 0xD0#8] []
      { State.reset with f := 0x80#8 })
    (fun t => t.pc = 0xC003#16 ∧ t.cycles = 12) = true := by decide

/-- 95_test_vectors CT.6: JP HL. -/
theorem test_ct_6 : endsIn
    (placed 0xC000#16 [0xE9#8] []
      { State.reset with h := 0xFF#8, l := 0xFF#8 })
    (fun t => t.pc = 0xFFFF#16 ∧ t.cycles = 4) = true := by decide

/-- 95_test_vectors CT.7: JR -2. -/
theorem test_ct_7 : endsIn
    (placed 0xC000#16 [0x18#8, 0xFE#8] []
      State.reset)
    (fun t => t.cycles = 12) = true := by decide

/-- 95_test_vectors CT.9: JR -128. -/
theorem test_ct_9 : endsIn
    (placed 0xC000#16 [0x18#8, 0x80#8] []
      State.reset)
    (fun t => t.pc = 0xBF82#16 ∧ t.cycles = 12) = true := by decide

/-- 95_test_vectors CT.11: JR NZ,-3. -/
theorem test_ct_11 : endsIn
    (placed 0xC000#16 [0x20#8, 0xFD#8] []
      { State.reset with f := 0x00#8 })
    (fun t => t.pc = 0xBFFF#16 ∧ t.cycles = 12) = true := by decide

/-- 95_test_vectors CT.12: JR NZ,-3. -/
theorem test_ct_12 : endsIn
    (placed 0xC000#16 [0x20#8, 0xFD#8] []
      { State.reset with f := 0x80#8 })
    (fun t => t.pc = 0xC002#16 ∧ t.cycles = 8) = true := by decide

/-- 95_test_vectors CT.16: CALL 0xD123. -/
theorem test_ct_16 : endsIn
    (placed 0xC000#16 [0xCD#8, 0x23#8, 0xD1#8] []
      { State.reset with sp := 0xD000#16 })
    (fun t => t.sp = 0xCFFE#16 ∧ t.pc = 0xD123#16 ∧ memRead t 0xCFFE#16 = 0x03#8 ∧ memRead t 0xCFFF#16 = 0xC0#8 ∧ t.cycles =
      24) = true := by decide

/-- 95_test_vectors CT.18: CALL NZ,0xD123. -/
theorem test_ct_18 : endsIn
    (placed 0xC000#16 [0xC4#8, 0x23#8, 0xD1#8] []
      { State.reset with sp := 0xD000#16, f := 0x80#8 })
    (fun t => t.pc = 0xC003#16 ∧ t.cycles = 12) = true := by decide

/-- 95_test_vectors CT.19: CALL Z,0xD123. -/
theorem test_ct_19 : endsIn
    (placed 0xC000#16 [0xCC#8, 0x23#8, 0xD1#8] []
      { State.reset with sp := 0xD000#16, f := 0x80#8 })
    (fun t => t.sp = 0xCFFE#16 ∧ t.pc = 0xD123#16 ∧ memRead t 0xCFFE#16 = 0x03#8 ∧ memRead t 0xCFFF#16 = 0xC0#8 ∧ t.cycles =
      24) = true := by decide

/-- 95_test_vectors CT.20: RET. -/
theorem test_ct_20 : endsIn
    (placed 0xC000#16 [0xC9#8] [(0xD000#16, 0x03#8), (0xD001#16, 0xC1#8)]
      { State.reset with sp := 0xD000#16 })
    (fun t => t.sp = 0xD002#16 ∧ t.pc = 0xC103#16 ∧ t.cycles = 16) = true := by decide

/-- 95_test_vectors CT.21: RET NC. -/
theorem test_ct_21 : endsIn
    (placed 0xC000#16 [0xD0#8] [(0xD000#16, 0x03#8), (0xD001#16, 0xC1#8)]
      { State.reset with sp := 0xD000#16, f := 0x00#8 })
    (fun t => t.sp = 0xD002#16 ∧ t.pc = 0xC103#16 ∧ t.cycles = 20) = true := by decide

/-- 95_test_vectors CT.22: RET NC. -/
theorem test_ct_22 : endsIn
    (placed 0xC000#16 [0xD0#8] [(0xD000#16, 0x03#8), (0xD001#16, 0xC1#8)]
      { State.reset with sp := 0xD000#16, f := 0x10#8 })
    (fun t => t.pc = 0xC001#16 ∧ t.cycles = 8) = true := by decide

/-- 95_test_vectors CT.23: RETI. -/
theorem test_ct_23 : endsIn
    (placed 0xC000#16 [0xD9#8] [(0xD000#16, 0x50#8), (0xD001#16, 0xC0#8)]
      { State.reset with sp := 0xD000#16, ime := false })
    (fun t => t.sp = 0xD002#16 ∧ t.pc = 0xC050#16 ∧ t.ime = true ∧ t.cycles = 16) = true := by decide

/-- 95_test_vectors CT.24: RETI. -/
theorem test_ct_24 : endsIn
    (placed 0xC000#16 [0xD9#8] [(0xD000#16, 0x50#8), (0xD001#16, 0xC0#8)]
      { State.reset with sp := 0xD000#16, ime := false, imePending := true })
    (fun t => t.sp = 0xD002#16 ∧ t.pc = 0xC050#16 ∧ t.ime = true ∧ t.imePending = false ∧ t.cycles = 16) = true := by decide

/-- 95_test_vectors CT.25: RST 0x38. -/
theorem test_ct_25 : endsIn
    (placed 0xC000#16 [0xFF#8] []
      { State.reset with sp := 0xD000#16 })
    (fun t => t.sp = 0xCFFE#16 ∧ t.pc = 0x0038#16 ∧ memRead t 0xCFFE#16 = 0x01#8 ∧ memRead t 0xCFFF#16 = 0xC0#8 ∧ t.cycles =
      16) = true := by decide

/-- 95_test_vectors SY.1: NOP. -/
theorem test_sy_1 : endsIn
    (placed 0xC000#16 [0x00#8] []
      State.reset)
    (fun t => t.pc = 0xC001#16 ∧ t.div = 0x0004#16 ∧ t.clock = 4 ∧ t.cycles = 4) = true := by decide

/-- 95_test_vectors SY.2: HALT. -/
theorem test_sy_2 : endsIn
    (placed 0xC000#16 [0x76#8] []
      { State.reset with ime := true, ie := 0x04#8, irq := 0x00#5 })
    (fun t => t.pc = 0xC001#16 ∧ t.mode = .halted ∧ t.cycles = 4) = true := by decide

/-- 95_test_vectors SY.4: HALT. -/
theorem test_sy_4 : endsIn
    (placed 0xC000#16 [0x76#8] []
      { State.reset with ime := false, ie := 0x01#8, irq := 0x01#5 })
    (fun t => t.pc = 0xC001#16 ∧ t.haltBug = true ∧ t.cycles = 4) = true := by decide

/-- 95_test_vectors SY.7: STOP. -/
theorem test_sy_7 : endsIn
    (placed 0xC000#16 [0x10#8, 0x00#8] []
      State.reset)
    (fun t => t.pc = 0xC002#16 ∧ t.mode = .stopped ∧ t.cycles = 4) = true := by decide

/-- 95_test_vectors SY.8: STOP. -/
theorem test_sy_8 : endsIn
    (placed 0xC000#16 [0x10#8, 0xD3#8] []
      State.reset)
    (fun t => t.pc = 0xC002#16 ∧ t.mode = .stopped ∧ t.cycles = 4) = true := by decide

/-- 95_test_vectors SY.9: DI. -/
theorem test_sy_9 : endsIn
    (placed 0xC000#16 [0xF3#8] []
      { State.reset with ime := true })
    (fun t => t.pc = 0xC001#16 ∧ t.ime = false ∧ t.cycles = 4) = true := by decide

/-- 95_test_vectors SY.11: EI. -/
theorem test_sy_11 : endsIn
    (placed 0xC000#16 [0xFB#8] []
      { State.reset with ime := false })
    (fun t => t.pc = 0xC001#16 ∧ t.imePending = true ∧ t.cycles = 4) = true := by decide

/-- 95_test_vectors SY.18: (undefined 0xD3). -/
theorem test_sy_18 : endsIn
    (placed 0xC000#16 [0xD3#8] []
      State.reset)
    (fun t => t.mode = .faulted ∧ t.fault = some ⟨0xD3#8, 0xC000#16⟩) = true := by decide

/-- 95_test_vectors SY.19: (undefined 0xDD). -/
theorem test_sy_19 : endsIn
    (placed 0xC000#16 [0xDD#8] []
      { State.reset with ime := false, imePending := true, haltBug := true })
    (fun t => t.mode = .faulted ∧ t.fault = some ⟨0xDD#8, 0xC000#16⟩) = true := by decide

/-- 95_test_vectors IN.4: (service). -/
theorem test_in_4 : endsIn
    (placed 0xC000#16 [0x00#8] []
      { State.reset with ime := true, ie := 0x08#8, irq := 0x0C#5, sp := 0xD000#16 })
    (fun t => t.sp = 0xCFFE#16 ∧ t.pc = 0x0058#16 ∧ t.ime = false ∧ t.irq = 0x04#5 ∧ memRead t 0xCFFF#16 = 0xC0#8 ∧ t.cycles =
      20) = true := by decide

/-- 95_test_vectors IN.9: (service) with SP=0x0001. -/
theorem test_in_9 : endsIn
    (placed 0xC123#16 [0x00#8] []
      { State.reset with ime := true, ie := 0x01#8, irq := 0x01#5, sp := 0x0001#16 })
    (fun t => t.sp = 0xFFFF#16 ∧ t.pc = 0x0040#16 ∧ t.ime = false ∧ t.ie = 0x23#8 ∧ t.irq = 0x00#5 ∧ t.cycles = 20) = true := by decide

/-! ## Cartridge latches and a double overflow -/

/-- 20_memory R138: with four banks, writing 0x00 selects bank 1, 0x04 selects 1, 0x1F selects 3, 0xE2 selects 2. -/
theorem test_rom_bank_select : [0x00#8, 0x04#8, 0x1F#8, 0xE2#8].map
    (fun v => (memWrite 0x2000#16 v { State.reset with cart := banked }).romBank) = [1, 1, 3, 2] := by decide

/-- 95_test_vectors TM.16: `TAC = 5`, `TMA = TIMA = 0xFE`, `tick(64)` raises two requests. -/
theorem test_double_overflow :
    (tickCount 64 { State.reset with tac := 5#3, tma := 0xFE#8, tima := 0xFE#8 }).2 = 2 := by decide

/-! ## Witnesses: states and operands that meet the hypotheses of the statements -/

theorem next_of_endsIn {s : State} {p : State → Prop} [DecidablePred p] (h : endsIn s p = true) :
    ∃ t, step s = .next t ∧ p t := by
  unfold endsIn at h
  split at h
  · exact ⟨_, by assumption, of_decide_eq_true h⟩
  · cases h

theorem witness_DecodeInvertsEncode : Instr.nop.wellFormed = true ∧ (Instr.callNn 0xFFFF#16).wellFormed = true ∧
    Instr.set7A.wellFormed = true := by decide

theorem witness_EncodeInvertsDecode : decode [0xCB#8, 0x37#8, 0x01#8] = .ok (.swapA, [0x01#8]) ∧
    decode [0xCB#8] = .ok (.prefixCb, []) := ⟨rfl, rfl⟩

theorem witness_BasePageByFields : (0x00#8 : Byte) ≠ 0xCB#8 ∧ (0xCA#8 : Byte) ≠ 0xCB#8 ∧ (0xFF#8 : Byte) ≠ 0xCB#8 := by
  decide

theorem witness_UndefinedBytesAreEleven : 0xD3#8 ∈ undefinedBytes ∧ 0xFD#8 ∈ undefinedBytes ∧
    (decodeOp 0xFC#8 0x00#8 0xFF#8).form = .illegal 0xFC#8 := by decide

theorem witness_LoadRegister : Instr.ldBC.form = .ldRegReg .b .c ∧ Instr.ldLL.form = .ldRegReg .l .l ∧
    (Instr.ldAN 0xFF#8).form = .ldRegImm .a 0xFF#8 := ⟨rfl, rfl, rfl⟩

theorem witness_LoadAndStoreAtHl : Instr.ldHMemHl.form = .ldRegMem .h ∧ Instr.ldMemHlL.form = .ldMemReg .l ∧
    (Instr.ldMemHlN 0x00#8).form = .ldMemImm 0x00#8 := ⟨rfl, rfl, rfl⟩

theorem witness_LoadAndStorePair : (Instr.ldBcNn 0#16).form = .ldPairImm .bc 0#16 ∧
    (Instr.ldSpNn 0xFFFF#16).form = .ldPairImm .sp 0xFFFF#16 := ⟨rfl, rfl⟩

theorem witness_PushStoresHighThenLow : Instr.pushBc.form = .push .bc ∧ Instr.pushAf.form = .push .af := ⟨rfl, rfl⟩

theorem witness_PopReadsLowThenHigh : Instr.popBc.form = .pop .bc ∧ Instr.popAf.form = .pop .af := ⟨rfl, rfl⟩

theorem witness_AccumulatorForms : Instr.addAB.form = .alu .add (.reg .b) ∧ Instr.cpMemHl.form = .alu .cp .memHl ∧
    (Instr.orN 0x0F#8).form = .alu .or (.imm 0x0F#8) ∧
    (Instr.addAN 0x00#8).form = .alu .add (.imm (getReg .b State.reset)) ∧
    (Instr.cpN 0x00#8).form = .alu .cp (.imm (memRead State.reset (State.reset.h ++ State.reset.l))) ∧
    ∃ u, exec (.addAN 0x00#8) State.reset = .next u := ⟨rfl, rfl, rfl, rfl, by decide, _, rfl⟩

theorem witness_AddAndAddWithCarry : Instr.addAA.form = .alu .add (.reg .a) ∧ Instr.adcAMemHl.form = .alu .adc .memHl ∧
    (Instr.adcAN 0xFF#8).form = .alu .adc (.imm 0xFF#8) := ⟨rfl, rfl, rfl⟩

theorem witness_SubtractAndCompare : Instr.subB.form = .alu .sub (.reg .b) ∧ Instr.sbcAMemHl.form = .alu .sbc .memHl ∧
    (Instr.cpN 0xFF#8).form = .alu .cp (.imm 0xFF#8) := ⟨rfl, rfl, rfl⟩

theorem witness_LogicOperations : Instr.andB.form = .alu .and (.reg .b) ∧ Instr.xorMemHl.form = .alu .xor .memHl ∧
    (Instr.orN 0xFF#8).form = .alu .or (.imm 0xFF#8) := ⟨rfl, rfl, rfl⟩

theorem witness_IncrementAndDecrementByte : Instr.incA.form = .inc (.reg .a) ∧ Instr.incMemHl.form = .inc .memHl ∧
    Instr.decB.form = .dec (.reg .b) ∧ Instr.decMemHl.form = .dec .memHl := ⟨rfl, rfl, rfl, rfl⟩

theorem witness_AddPairToHl : Instr.addHlBc.form = .addHl .bc ∧ Instr.addHlSp.form = .addHl .sp := ⟨rfl, rfl⟩

theorem witness_IncrementAndDecrementPair : Instr.incBc.form = .incPair .bc ∧ Instr.incSp.form = .incPair .sp ∧
    Instr.decHl.form = .decPair .hl ∧ Instr.decSp.form = .decPair .sp := ⟨rfl, rfl, rfl, rfl⟩

theorem witness_CbRotatesAndShifts : Instr.rlcB.form = .rot .rlc (.reg .b) ∧ Instr.srlA.form = .rot .srl (.reg .a) ∧
    Instr.swapMemHl.form = .rot .swap .memHl := ⟨rfl, rfl, rfl⟩

theorem witness_BitTestResetSet : Instr.bit0B.form = .bit 0#3 (.reg .b) ∧ Instr.bit7MemHl.form = .bit 7#3 .memHl ∧
    Instr.res0MemHl.form = .res 0#3 .memHl ∧ Instr.res7A.form = .res 7#3 (.reg .a) ∧
    Instr.set0B.form = .set 0#3 (.reg .b) ∧ Instr.set7MemHl.form = .set 7#3 .memHl := ⟨rfl, rfl, rfl, rfl, rfl, rfl⟩

theorem witness_JumpsTakeTheTarget : (Instr.jpNzNn 0#16).form = .jpCond .nz 0#16 ∧
    (Instr.jpCNn 0xFFFF#16).form = .jpCond .c 0xFFFF#16 ∧ (Instr.jrNzE 0x80#8).form = .jrCond .nz 0x80#8 ∧
    (Instr.jrCE 0x7F#8).form = .jrCond .c 0x7F#8 := ⟨rfl, rfl, rfl, rfl⟩

theorem witness_CallsPushTheReturnAddress : (Instr.callNn 0#16).form = .call 0#16 ∧
    (Instr.callNcNn 0xFFFF#16).form = .callCond .nc 0xFFFF#16 ∧ Instr.rst00.form = .rst 0#3 ∧
    Instr.rst38.form = .rst 7#3 := ⟨rfl, rfl, rfl, rfl⟩

theorem witness_ReturnsPopTheAddress : Instr.retNz.form = .retCond .nz ∧ Instr.retC.form = .retCond .c := ⟨rfl, rfl⟩

theorem witness_HaltHaltsOrArmsTheQuirk : (∃ k, k < 5 ∧ (0x10#8 : Byte).getLsbD k = true ∧ (0x10#5 : BitVec 5).getLsbD k = true) ∧
    ¬(∃ k, k < 5 ∧ (0xE0#8 : Byte).getLsbD k = true ∧ (0x1F#5 : BitVec 5).getLsbD k = true) := by
  refine ⟨⟨4, by decide⟩, ?_⟩
  rintro ⟨k, hk, h, -⟩
  revert h
  exact (by decide : ∀ k, k < 5 → ¬(0xE0#8 : Byte).getLsbD k = true) k hk

theorem witness_UndefinedOpcodeFaultsPrecisely : Instr.illegalD3.form = .illegal 0xD3#8 ∧
    Instr.illegalFD.form = .illegal 0xFD#8 ∧ runsInstruction (placed 0xC000#16 [0xFD#8] [] State.reset) ∧
    memRead (placed 0xC000#16 [0xFD#8] [] State.reset) (placed 0xC000#16 [0xFD#8] [] State.reset).pc ∈ undefinedBytes := by
  refine ⟨rfl, rfl, ?_, by decide⟩
  unfold runsInstruction
  decide

theorem decode_of_firstOf {bytes : List Byte} {i : Instr} {n : Nat} (h : firstOf bytes = some (i, n)) :
    ∃ rest, decode bytes = .ok (i, rest) := by
  unfold firstOf at h
  split at h
  · rename_i j rest hd
    cases h
    exact ⟨rest, hd⟩
  · cases h

theorem witness_StepRunsDecodedInstruction : (∀ b : Bool, runsInstruction
      { placed 0xC000#16 [0x3E#8, 0x42#8] [] State.reset with haltBug := b }) ∧
    (∃ rest, decode (fetchedBytes (placed 0xC000#16 [0x3E#8, 0x42#8] [] State.reset)) = .ok (.ldAN 0x42#8, rest)) ∧
    (∃ rest, decode (fetchedBytes { placed 0xC000#16 [0x3E#8, 0x42#8] [] State.reset with haltBug := true }) =
      .ok (.ldAN 0x3E#8, rest)) ∧
    0x3E#8 ∉ undefinedBytes ∧
    (∃ t, exec (.ldAN 0x42#8) (fetched (placed 0xC000#16 [0x3E#8, 0x42#8] [] State.reset) 2) = .next t) ∧
    (∃ rest, decode (fetchedBytes (placed 0xC000#16 [0xDD#8] [] State.reset)) = .ok (.illegalDD, rest)) := by
  refine ⟨fun b => ?_, decode_of_firstOf (n := 1) (by decide), decode_of_firstOf (n := 1) (by decide), by decide,
    ⟨_, rfl⟩, decode_of_firstOf (n := 2) (by decide)⟩
  unfold runsInstruction
  cases b <;> decide

theorem witness_FaultedMachineStaysFaulted : ({ State.reset with mode := .faulted } : State).mode = .faulted ∧
    State.reset.mode ≠ .faulted := by decide

theorem witness_HaltedAndStoppedMachinesIdle : ((0x1F#8 : Byte).getLsbD 0 = true ∧ (0x01#5 : BitVec 5).getLsbD 0 = true) ∧
    ({ State.reset with mode := .halted } : State).mode = .halted ∧
    (∀ k, k < 5 → ¬(State.reset.ie.getLsbD k = true ∧ State.reset.irq.getLsbD k = true)) ∧
    ({ State.reset with mode := .stopped } : State).irq.getLsbD 4 = false ∧
    ({ State.reset with mode := .stopped, irq := 0x10#5 } : State).irq.getLsbD 4 = true := by decide

theorem witness_InterruptServiceStep : firstPending { State.reset with ime := true, ie := 0x01#8, irq := 0x1F#5 } .vblank ∧
    firstPending { State.reset with ime := true, mode := .halted, ie := 0x1C#8, irq := 0x17#5 } .timer ∧
    firstPending { State.reset with ime := true, mode := .stopped, ie := 0xFF#8, irq := 0x10#5 } .joypad := by
  unfold firstPending
  decide

theorem witness_PriorityIsLowestNumber : highestPending (pendingSet { State.reset with ie := 0xF0#8, irq := 0x1F#5 }) =
      some .joypad ∧
    highestPending (pendingSet { State.reset with ie := 0xE0#8, irq := 0x1F#5 }) = none := by decide

/-- A state about to run one byte with the two enables as given. -/
def enabling (op : Byte) (ime pending : Bool) : State :=
  { placed 0xC000#16 [op] [] State.reset with ime := ime, imePending := pending }

theorem witness_EnableIsDelayedByOneInstruction :
    (runsInstruction (enabling 0xFB#8 false false) ∧ ∃ t, step (enabling 0xFB#8 false false) = .next t ∧ True) ∧
    (runsInstruction (enabling 0x00#8 false true) ∧ ∃ t, step (enabling 0x00#8 false true) = .next t ∧ True) ∧
    (runsInstruction (enabling 0xF3#8 false true) ∧ ∃ t, step (enabling 0xF3#8 false true) = .next t ∧ True) ∧
    (runsInstruction (enabling 0x76#8 false false) ∧ ∃ t, step (enabling 0x76#8 false false) = .next t ∧ True) := by
  unfold runsInstruction
  exact ⟨⟨by decide, next_of_endsIn (p := fun _ => True) (by decide)⟩,
    ⟨by decide, next_of_endsIn (p := fun _ => True) (by decide)⟩,
    ⟨by decide, next_of_endsIn (p := fun _ => True) (by decide)⟩,
    ⟨by decide, next_of_endsIn (p := fun _ => True) (by decide)⟩⟩

theorem witness_MasterEnableChangesOnlyBy :
    (∃ t, step (enabling 0x00#8 false true) = .next t ∧ t.ime = true) ∧
    (∃ t, step (enabling 0xD9#8 false false) = .next t ∧ t.ime = true) ∧
    (∃ t, step (enabling 0xF3#8 true false) = .next t ∧ t.ime = false) ∧
    (∃ t, step { enabling 0x00#8 true false with ie := 0x01#8, irq := 0x01#5 } = .next t ∧ t.ime = false) :=
  ⟨next_of_endsIn (p := fun t => t.ime = true) (by decide), next_of_endsIn (p := fun t => t.ime = true) (by decide),
    next_of_endsIn (p := fun t => t.ime = false) (by decide), next_of_endsIn (p := fun t => t.ime = false) (by decide)⟩

theorem witness_TickAdvancesTheTimer : (3#3 : BitVec 3).toNat < 4 ∧ 4 ≤ (4#3 : BitVec 3).toNat ∧
    4 ≤ (7#3 : BitVec 3).toNat := by decide

theorem witness_StorageRegions : (0x3FFF#16 : Word).toNat < 0x4000 ∧ 0x4000 ≤ (0x4000#16 : Word).toNat ∧
    (0x7FFF#16 : Word).toNat < 0x8000 ∧ 0x8000 ≤ (0x8000#16 : Word).toNat ∧ (0x9FFF#16 : Word).toNat < 0xA000 ∧
    0xA000 ≤ (0xA000#16 : Word).toNat ∧ (0xBFFF#16 : Word).toNat < 0xC000 ∧ 0xC000 ≤ (0xC000#16 : Word).toNat ∧
    (0xDFFF#16 : Word).toNat < 0xE000 ∧ 0xE000 ≤ (0xE000#16 : Word).toNat ∧ (0xFDFF#16 : Word).toNat < 0xFE00 ∧
    0xFE00 ≤ (0xFE00#16 : Word).toNat ∧ (0xFE9F#16 : Word).toNat < 0xFEA0 ∧ 0xFEA0 ≤ (0xFEA0#16 : Word).toNat ∧
    (0xFEFF#16 : Word).toNat < 0xFF00 ∧ 0xFF80 ≤ (0xFF80#16 : Word).toNat ∧ (0xFFFE#16 : Word).toNat < 0xFFFF ∧
    (0xFFFF#16 : Word).toNat = 0xFFFF := by decide

theorem witness_IoWindowRegisters :
    (0xFF00 ≤ (0xFF00#16 : Word).toNat ∧ (0xFF00#16 : Word).toNat ∉ ([0xFF04, 0xFF05, 0xFF06, 0xFF07, 0xFF0F] : List Nat)) ∧
    (0xFF08#16 : Word).toNat ∉ ([0xFF04, 0xFF05, 0xFF06, 0xFF07, 0xFF0F] : List Nat) ∧
    (0xFF7F#16 : Word).toNat < 0xFF80 := by
  simp

theorem witness_CartridgeWrites : State.reset.cart.mapper = .noMapper ∧ banked.mapper = .banked ∧
    (0x1FFF#16 : Word).toNat < 0x2000 ∧ 0x2000 ≤ (0x2000#16 : Word).toNat ∧ (0x3FFF#16 : Word).toNat < 0x4000 ∧
    0x4000 ≤ (0x4000#16 : Word).toNat ∧ (0x5FFF#16 : Word).toNat < 0x6000 ∧ 0x6000 ≤ (0x6000#16 : Word).toNat ∧
    (0x7FFF#16 : Word).toNat < 0x8000 ∧ 0xA000 ≤ (0xA000#16 : Word).toNat ∧ (0xBFFF#16 : Word).toNat < 0xC000 := by decide

theorem witness_ReadAfterWrite : State.MemInv { State.reset with cart := banked, ramEnable := true } ∧
    plainCell State.reset 0x8000#16 ∧ plainCell State.reset 0x9FFF#16 ∧
    plainCell { State.reset with cart := banked, ramEnable := true } 0xA000#16 ∧
    plainCell { State.reset with cart := banked, ramEnable := true } 0xBFFF#16 ∧
    plainCell State.reset 0xC000#16 ∧ plainCell State.reset 0xE000#16 ∧ plainCell State.reset 0xFE9F#16 ∧
    plainCell State.reset 0xFF00#16 ∧ plainCell State.reset 0xFF05#16 ∧ plainCell State.reset 0xFFFF#16 := by
  refine ⟨by decide, .inl ?_, .inl ?_, .inr (.inl ?_), .inr (.inl ?_), .inr (.inr (.inl ?_)), .inr (.inr (.inl ?_)),
    .inr (.inr (.inl ?_)), .inr (.inr (.inr ?_)), .inr (.inr (.inr ?_)), .inr (.inr (.inr ?_))⟩ <;> simp [banked]

theorem mayTouch_plain {addr x : Word} (h : cellOf x ≠ cellOf addr) (hl : x.toNat < 0x4000) : ¬mayTouch addr x := by
  rintro (h1 | ⟨-, h2 | h2⟩ | ⟨-, h2⟩)
  · exact h h1
  all_goals omega

theorem witness_MemoryFrame : (∃ t, exec .pushBc State.reset = .next t) ∧
    (∀ addr ∈ storesTo (.push .bc) State.reset, ¬mayTouch addr 0x0150#16) ∧ Instr.pushBc.form = .push .bc ∧
    storesTo Instr.nop.form State.reset = [] := by
  refine ⟨⟨_, Laws.exec_eq_run _ _⟩, fun addr h => mayTouch_plain ?_ (by decide), rfl, rfl⟩
  have h' : addr = State.reset.sp - 1#16 ∨ addr = State.reset.sp - 2#16 := by
    simpa only [storesTo, stackSlots, List.mem_cons, List.not_mem_nil, or_false] using h
  rcases h' with rfl | rfl <;> decide

theorem witness_ResetMeetsInvariant : banked.wellFormed = true ∧ Memory.wf 8192 [(8191, 0x01#8)] = true ∧
    Memory.wf 127 [(126, 0x01#8)] = true ∧ Memory.wf 160 [(159, 0x01#8)] = true ∧
    Memory.wf (banked.ramBanks * 0x2000) [(0x3FFF, 0x01#8)] = true := by decide

theorem witness_StepKeepsInvariant : State.Inv { enabling 0x00#8 true false with cart := banked, ie := 0x01#8, irq := 0x01#5 } ∧
    ∃ t, step { enabling 0x00#8 true false with cart := banked, ie := 0x01#8, irq := 0x01#5 } = .next t ∧ True :=
  ⟨by decide, next_of_endsIn (p := fun _ => True) (by decide)⟩

theorem witness_EnvironmentKeepsItsBounds : State.Inv { State.reset with mode := .halted } ∧
    envAct (.request .joypad) { State.reset with mode := .halted } =
      .next (request .joypad { State.reset with mode := .halted }) ∧
    (∃ t, envAct (.writeIo 0x00#7 0xCF#8) State.reset = .next t) ∧
    envAct (.writeIo 0x0F#7 0x1F#8) State.reset = .refused .notPassThrough ∧
    ([] : List Byte).length = State.reset.cart.ramBanks * 0x2000 ∧
    ([0x00#8] : List Byte).length ≠ State.reset.cart.ramBanks * 0x2000 := by
  refine ⟨by decide, rfl, ⟨_, rfl⟩, rfl, rfl, by decide⟩

theorem witness_RestoreReplacesExternalRam :
    (List.replicate (banked.ramBanks * 0x2000) 0xA5#8).length =
      ({ State.reset with cart := banked } : State).cart.ramBanks * 0x2000 ∧
    ([0x00#8] : List Byte).length ≠ State.reset.cart.ramBanks * 0x2000 ∧
    0x3FFF < ({ State.reset with cart := banked } : State).cart.ramBanks * 0x2000 :=
  ⟨List.length_replicate, by decide, by decide⟩

theorem witness_RunUntilMeetsItsBudget : runUntil 5 State.reset = ((runUntil 5 State.reset).1, .ran 8) :=
  Prod.ext rfl (by decide)

theorem witness_StepCostsAndClock :
    (∃ t, step (enabling 0x00#8 false false) = .next t ∧ t.mode ≠ .faulted) ∧
    (∃ t, step (enabling 0xD3#8 false false) = .next t ∧ t.mode = .faulted) :=
  ⟨next_of_endsIn (p := fun t => t.mode ≠ .faulted) (by decide), next_of_endsIn (p := fun t => t.mode = .faulted) (by decide)⟩

theorem witness_ClockIsNotObserved : ∃ t, step { State.reset with clock := 1000 } = .next t ∧ True :=
  next_of_endsIn (p := fun _ => True) (by decide)

theorem witness_ConfigurationNeverChanges : ∃ t, step { State.reset with cart := banked } = .next t ∧ True :=
  next_of_endsIn (p := fun _ => True) (by decide)

theorem witness_DisabledRamIsIsolated :
    (({ State.reset with cart := banked } : State).ramEnable = false ∧
      ∃ t, step { State.reset with cart := banked } = .next t ∧ True) ∧
    (({ State.reset with ramEnable := true } : State).cart.ramBanks = 0 ∧
      ∃ t, step { State.reset with ramEnable := true } = .next t ∧ True) :=
  ⟨⟨by decide, next_of_endsIn (p := fun _ => True) (by decide)⟩,
    ⟨by decide, next_of_endsIn (p := fun _ => True) (by decide)⟩⟩

end Sys2Proof.Tests
end

section
/-! PROOFS. The state: pairs as numbers, the opcode byte a form is fetched by, what no ordinary instruction touches, the
parts of a step, the step as a function of the state, the clock, and the statements settled by them. -/

namespace Sys2Proof.Machine

open Sys2Proof Sys2Proof.Claims

/-! ## Bytes and pairs -/

theorem pairOf_toNat (hi lo : Byte) : (pairOf hi lo).toNat = 256 * hi.toNat + lo.toNat := by
  rw [pairOf, BitVec.toNat_append, ← Nat.shiftLeft_add_eq_or_of_lt lo.isLt, Nat.shiftLeft_eq, Nat.mul_comm]

theorem hiByte_eq_ofNat (v : Word) : hiByte v = BitVec.ofNat 8 (v.toNat / 256) := by
  rw [hiByte, BitVec.extractLsb', Nat.shiftRight_eq_div_pow]

theorem loByte_eq_ofNat (v : Word) : loByte v = BitVec.ofNat 8 v.toNat := rfl

/-! ## The opcode byte of a decoded form -/

/-- A CB-page instruction encodes with `0xCB` first. -/
theorem head_encode_cbPage (op2 : Byte) : (encode (cbPage op2)).head? = some 0xCB#8 := by
  refine Laws.forall_byte (p := fun b => (encode (cbPage b)).head? = some 0xCB#8) ?_ op2
  intro n hn
  interval_cases n <;> rfl

/-- The first byte of a decoded instruction's encoding is the byte it was decoded from. -/
theorem head_encode_decodeOp (b0 b1 b2 : Byte) : (encode (decodeOp b0 b1 b2)).head? = some b0 := by
  refine Laws.forall_byte (p := fun b => (encode (decodeOp b b1 b2)).head? = some b) ?_ b0
  intro n hn
  rcases Nat.lt_trichotomy n 0xCB with hlt | rfl | hgt
  · interval_cases n <;> rfl
  · exact head_encode_cbPage b1
  · interval_cases n <;> rfl

/-- The opcode byte at `PC` is the first byte of the encoding of the form fetched there. -/
theorem head_bytes_fetchInstr (s : State) :
    (Laws.Form.bytes (fetchInstr s).form).head? = some (fetchOpcode s) := by
  rw [← Laws.encode_eq_bytes]
  exact head_encode_decodeOp _ _ _

theorem fetchOpcode_of_form {s : State} {f : Form} {b : Byte} (h : (fetchInstr s).form = f)
    (hb : (Laws.Form.bytes f).head? = some b) : fetchOpcode s = b := by
  rw [← h, head_bytes_fetchInstr] at hb
  exact Option.some.inj hb

/-- An undefined opcode byte decodes to the undefined form of that byte (30_encoding R182). -/
theorem form_decodeOp_of_isUndefined {b0 : Byte} (h : isUndefined b0 = true) (b1 b2 : Byte) :
    (decodeOp b0 b1 b2).form = .illegal b0 := by
  simp only [isUndefined, decide_eq_true_eq, List.mem_cons, List.not_mem_nil, or_false] at h
  rcases h with rfl | rfl | rfl | rfl | rfl | rfl | rfl | rfl | rfl | rfl | rfl <;> rfl

theorem form_fetchInstr_of_isUndefined {s : State} (h : isUndefined (fetchOpcode s) = true) :
    (fetchInstr s).form = .illegal (fetchOpcode s) :=
  form_decodeOp_of_isUndefined h _ _

/-! ## The stack -/

/-- One byte of a push: `SP` down, then the write (00_scope R19). -/
def pushByte (v : Byte) (s : State) : State := memWrite (s.sp - 1#16) v { s with sp := s.sp - 1#16 }

theorem push16_eq (v : Word) (s : State) : push16 v s = pushByte (loByte v) (pushByte (hiByte v) s) := rfl

/-! ## What an ordinary instruction cannot touch -/

/-- The observation `π` sees no register, no `SP`, no `PC`, no recorded cost and no byte write. -/
structure Untouched {α : Type} (π : State → α) : Prop where
  regs : ∀ (s : State) (a f b c d e h l : Byte) (sp pc : Word) (n : Nat), π { s with
    a := a, f := f, b := b, c := c, d := d, e := e, h := h, l := l, sp := sp, pc := pc, cycles := n } = π s
  mem : ∀ (addr : Word) (v : Byte) (s : State), π (memWrite addr v s) = π s

/-- The forms that change the control state (45_control R350, 46_system R371 to R376). -/
def changesControl (f : Form) : Bool :=
  match f with
  | .halt | .stop _ | .di | .ei | .reti | .illegal _ => true
  | _ => false

namespace Untouched

variable {α : Type} {π : State → α}

theorem setReg (hπ : Untouched π) (r : Reg8) (v : Byte) (s : State) : π (setReg r v s) = π s := by
  cases r <;> exact hπ.regs s ..

theorem setPair (hπ : Untouched π) (p : Pair) (v : Word) (s : State) : π (setPair p v s) = π s := by
  cases p <;> exact hπ.regs s ..

theorem setStackPair (hπ : Untouched π) (p : StackPair) (v : Word) (s : State) : π (setStackPair p v s) = π s := by
  cases p <;> exact hπ.regs s ..

theorem setOpnd (hπ : Untouched π) (o : Opnd) (v : Byte) (s : State) : π (setOpnd o v s) = π s := by
  cases o with
  | reg r => exact hπ.setReg r v s
  | memHl => exact hπ.mem _ v s

theorem withCost (hπ : Untouched π) (n : Nat) (s : State) : π (withCost n s) = π s := hπ.regs s ..

theorem memWrite16 (hπ : Untouched π) (addr v : Word) (s : State) : π (memWrite16 addr v s) = π s :=
  (hπ.mem _ _ _).trans (hπ.mem _ _ _)

theorem pushByte (hπ : Untouched π) (v : Byte) (s : State) : π (pushByte v s) = π s :=
  (hπ.mem _ _ _).trans (hπ.regs s ..)

theorem push16 (hπ : Untouched π) (v : Word) (s : State) : π (push16 v s) = π s :=
  (hπ.pushByte _ _).trans (hπ.pushByte _ _)

theorem callTo (hπ : Untouched π) (n : Nat) (target : Word) (s : State) : π (callTo n target s) = π s :=
  (hπ.regs (Machine.push16 s.pc s) ..).trans (hπ.push16 s.pc s)

/-- An operand write, then the flags and the cost. -/
theorem setOpnd_flags (hπ : Untouched π) (o : Opnd) (v f : Byte) (n : Nat) (s : State) :
    π (Machine.withCost n { Machine.setOpnd o v s with f := f }) = π s :=
  (hπ.regs (Machine.setOpnd o v s) ..).trans (hπ.setOpnd o v s)

theorem cbEntry (hπ : Untouched π) (op2 : Byte) (s : State) : π (cbEntry op2 s) = π s := by
  unfold Machine.cbEntry
  split
  · exact hπ.setOpnd_flags ..
  · exact hπ.regs s ..
  · exact (hπ.withCost _ _).trans (hπ.setOpnd ..)
  · exact (hπ.withCost _ _).trans (hπ.setOpnd ..)

/-- No form but the six that change the control state changes such an observation. -/
theorem run (hπ : Untouched π) {f : Form} (hf : changesControl f = false) (s : State) :
    π (Laws.Form.run f s) = π s := by
  cases f
  case ldRegReg | ldRegImm | ldRegMem => exact (hπ.withCost _ _).trans (hπ.setReg ..)
  case ldMemReg | ldMemImm | ldBcA | ldDeA | ldNnA | ldhCA | ldhNA => exact (hπ.withCost _ _).trans (hπ.mem ..)
  case ldDecA | ldIncA => exact (hπ.regs (memWrite (getHl s) s.a s) ..).trans (hπ.mem ..)
  case ldPairImm | incPair | decPair => exact (hπ.withCost _ _).trans (hπ.setPair ..)
  case ldNnSp => exact (hπ.withCost _ _).trans (hπ.memWrite16 ..)
  case push => exact (hπ.withCost _ _).trans (hπ.push16 ..)
  case pop p => exact (hπ.withCost _ _).trans ((hπ.setStackPair p (popValue s) (popState s)).trans (hπ.regs s ..))
  case inc | dec | rot => exact hπ.setOpnd_flags ..
  case res | set => exact (hπ.withCost _ _).trans (hπ.setOpnd ..)
  case jpCond k nn =>
    show π (jpCond k nn s) = π s
    unfold jpCond
    split <;> exact hπ.regs s ..
  case jrCond k e =>
    show π (jrCond k e s) = π s
    unfold jrCond
    split <;> exact hπ.regs s ..
  case call | rst => exact hπ.callTo ..
  case callCond k nn =>
    show π (callCond k nn s) = π s
    unfold callCond
    split
    · exact hπ.callTo ..
    · exact hπ.withCost ..
  case retCond k =>
    show π (retCond k s) = π s
    unfold retCond
    split <;> exact hπ.regs s ..
  case prefixCb => exact (hπ.cbEntry _ _).trans (hπ.regs s ..)
  case halt | stop | di | ei | reti | illegal => cases hf
  all_goals exact hπ.regs s ..

end Untouched

theorem untouched_cart : Untouched State.cart := ⟨fun _ _ _ _ _ _ _ _ _ _ _ _ => rfl, memWrite_cart⟩

theorem untouched_ime : Untouched State.ime := ⟨fun _ _ _ _ _ _ _ _ _ _ _ _ => rfl, memWrite_ime⟩

/-- `HALT` arms the quirk or changes the mode, and records its cost (46_system R371). -/
theorem haltOp_eq (s : State) :
    haltOp s = { s with haltBug := (haltOp s).haltBug, mode := (haltOp s).mode, cycles := 4 } := by
  unfold haltOp
  split <;> rfl

@[simp] theorem haltOp_cart (s : State) : (haltOp s).cart = s.cart := by rw [haltOp_eq]
@[simp] theorem haltOp_ime (s : State) : (haltOp s).ime = s.ime := by rw [haltOp_eq]

/-- No form changes the configuration (20_memory R133). -/
theorem run_cart (f : Form) (s : State) : (Laws.Form.run f s).cart = s.cart := by
  cases f
  case halt => exact haltOp_cart s
  case stop | di | ei | reti | illegal => rfl
  all_goals exact untouched_cart.run rfl s

/-- `DI` and `RETI` are the only forms that write `IME` themselves (46_system R373, 45_control R350). -/
theorem run_ime {f : Form} (hdi : f ≠ .di) (hreti : f ≠ .reti) (s : State) : (Laws.Form.run f s).ime = s.ime := by
  cases f
  case halt => exact haltOp_ime s
  case stop | ei | illegal => rfl
  case di => exact absurd rfl hdi
  case reti => exact absurd rfl hreti
  all_goals exact untouched_ime.run rfl s

theorem eq_reti_of_run_sets_ime {f : Form} {s : State} (h0 : s.ime = false) (h1 : (Laws.Form.run f s).ime = true) :
    f = .reti := by
  by_contra hreti
  by_cases hdi : f = .di
  · subst hdi
    cases h1
  · rw [run_ime hdi hreti, h0] at h1
    cases h1

theorem eq_di_of_run_clears_ime {f : Form} {s : State} (h1 : s.ime = true) (h0 : (Laws.Form.run f s).ime = false) :
    f = .di := by
  by_contra hdi
  by_cases hreti : f = .reti
  · subst hreti
    cases h0
  · rw [run_ime hdi hreti, h1] at h0
    cases h0

/-! ## The parts of a step -/

/-- Waking changes the mode alone (60_exceptions R430, R436). -/
theorem wake_eq (s : State) : wake s = { s with mode := (wake s).mode } := by
  unfold wake
  split
  · rfl
  · split <;> rfl
  · split <;> rfl
  · rfl

@[simp] theorem wake_ime (s : State) : (wake s).ime = s.ime := by rw [wake_eq]
@[simp] theorem wake_imePending (s : State) : (wake s).imePending = s.imePending := by rw [wake_eq]
@[simp] theorem wake_clock (s : State) : (wake s).clock = s.clock := by rw [wake_eq]
@[simp] theorem wake_cart (s : State) : (wake s).cart = s.cart := by rw [wake_eq]
@[simp] theorem pendingSet_wake (s : State) : pendingSet (wake s) = pendingSet s := by rw [wake_eq]; rfl

/-- The byte a step fetches is the byte at `PC`, whatever the machine wakes from. -/
@[simp] theorem fetchOpcode_wake (s : State) : fetchOpcode (wake s) = memRead s s.pc := by rw [wake_eq]; rfl

@[simp] theorem promoteIme_ime (promote : Bool) (s : State) :
    (promoteIme promote s).ime = (promote && s.imePending || s.ime) := by
  unfold promoteIme
  split
  · next h => rw [h]; rfl
  · next h => rw [Bool.not_eq_true] at h; rw [h, Bool.false_or]

@[simp] theorem promoteIme_cart (promote : Bool) (s : State) : (promoteIme promote s).cart = s.cart := by
  unfold promoteIme
  split <;> rfl

@[simp] theorem promoteIme_clock (promote : Bool) (s : State) : (promoteIme promote s).clock = s.clock := by
  unfold promoteIme
  split <;> rfl

@[simp] theorem service_cart (k : Source) (s : State) : (service k s).cart = s.cart :=
  push16_cart s.pc { s with ime := false, imePending := false, haltBug := false }

@[simp] theorem service_clock (k : Source) (s : State) : (service k s).clock = s.clock :=
  push16_clock s.pc { s with ime := false, imePending := false, haltBug := false }

/-- Service clears the master enable (60_exceptions R420). -/
@[simp] theorem service_ime (k : Source) (s : State) : (service k s).ime = false :=
  push16_ime s.pc { s with ime := false, imePending := false, haltBug := false }

/-! ## The pending source of highest priority -/

theorem getLsbD_pendingSet {s : State} {j : Nat} (h : j < 5) :
    (pendingSet s).getLsbD j = (s.ie.getLsbD j && s.irq.getLsbD j) := by
  simp [pendingSet, h]

/-- The highest pending source is the set bit with no set bit below it (60_exceptions R414). -/
theorem highestPending_eq_some_iff (pend : BitVec 5) (k : Source) : highestPending pend = some k ↔
    pend.getLsbD k.bitIndex = true ∧ ∀ j, j < k.bitIndex → ¬ pend.getLsbD j = true := by
  cases k <;> revert pend <;> decide

theorem Source.bitIndex_lt (k : Source) : k.bitIndex < 5 := by cases k <;> decide

theorem highestPending_pendingSet_iff (s : State) (k : Source) :
    highestPending (pendingSet s) = some k ↔ firstPending s k := by
  have hk := k.bitIndex_lt
  rw [highestPending_eq_some_iff, firstPending, getLsbD_pendingSet hk, Bool.and_eq_true]
  refine and_congr_right fun _ => forall₂_congr fun j hj => ?_
  rw [getLsbD_pendingSet (hj.trans hk), Bool.and_eq_true]

/-! ## The invariant -/

/-- Fetching keeps the invariant and leaves no halt quirk armed (60_exceptions R432). -/
theorem afterFetch_inv {s : State} (n : Nat) (h : s.Inv) : (afterFetch n s).Inv := by
  obtain ⟨hf, hb, hm, ⟨hfault, -⟩, ht, hk⟩ := h
  exact ⟨hf, hb, hm, ⟨hfault, fun hq => by cases hq⟩, ht, hk⟩

theorem promoteIme_inv {s : State} (promote : Bool) (h : s.Inv) : (promoteIme promote s).Inv := by
  unfold promoteIme
  split <;> exact h

/-- The undefined-opcode fault keeps the invariant: the mode and the record come together (60_exceptions R405). -/
theorem raiseUndefined_inv {s : State} (op : Byte) (h : s.Inv) : (raiseUndefined op s).Inv := by
  obtain ⟨hf, hb, hm, -, ht, hk⟩ := h
  exact ⟨hf, hb, hm, ⟨⟨fun _ => rfl, fun _ => rfl⟩, fun _ => Or.inr rfl⟩, ht, hk⟩

theorem instructionEnd_inv {s : State} (h : s.Inv) (hm : s.mode = .running) : (instructionEnd s).Inv :=
  finish_inv (promoteIme_inv _ (run_inv _ (afterFetch_inv _ h) hm rfl))

theorem launch_inv {k : Cartridge} {w h v o x : Memory} (hk : k.wellFormed = true) (hw : w.wf wramSize = true)
    (hh : h.wf hramSize = true) (hv : v.wf vramSize = true) (ho : o.wf oamSize = true)
    (hx : x.wf (k.ramBanks * ramBankSize) = true) : (State.launch k w h v o x).Inv := by
  have hcart := hk
  simp only [Cartridge.wellFormed, Bool.and_eq_true, Bool.or_eq_true, decide_eq_true_eq] at hcart
  obtain ⟨⟨hpos, hbanks⟩, -⟩ := hcart
  have hlatches : k.mapper = .noMapper → 1 % k.romBanks = 1 := by
    intro hn
    rcases hbanks with hb | hb
    · rw [hn] at hb; cases hb
    · rw [hb]
  have hflags : 0xB0#8 &&& 0x0F#8 = 0#8 := by decide
  refine ⟨hflags, ⟨Nat.mod_lt _ hpos, by simp [State.launch], fun hn => ⟨hlatches hn, rfl, ?_⟩⟩,
    ⟨hw, hh, rfl, hv, ho, hx, rfl, rfl, rfl, rfl, rfl⟩, ⟨⟨fun hx => (by cases hx), fun hx => (by cases hx)⟩,
    fun hq => by cases hq⟩, Nat.succ_pos _, hk⟩
  have hn : k.mapper = .noMapper := hn
  simp [State.launch, hn]

/-! ## The step as a function -/

/-- The state part (4) or (5) of a step ends in, on a running machine (60_exceptions R400). -/
def runningEnd (s : State) : State :=
  match if s.ime then highestPending (pendingSet s) else none with
  | some k => finish (service k s)
  | none => if isUndefined (fetchOpcode s) then Laws.Form.run (fetchInstr s).form s else instructionEnd s

/-- The state a step of a machine that is not faulted ends in (60_exceptions R400). -/
def stepEnd (s : State) : State := if (wake s).mode = .running then runningEnd (wake s) else idle s

theorem serviceOrRun_eq (s : State) : serviceOrRun s = .next (runningEnd s) := by
  unfold serviceOrRun runningEnd
  cases s.ime with
  | false => exact runInstruction_eq s
  | true =>
    cases highestPending (pendingSet s) with
    | some k => rfl
    | none => exact runInstruction_eq s

theorem step_eq_stepEnd {s : State} (h : s.mode ≠ .faulted) : step s = .next (stepEnd s) := by
  rw [step, stepMachine, if_neg h, stepEnd, serviceOrRun_eq]
  split <;> rfl

theorem step_next_iff {s t : State} : step s = .next t ↔ s.mode ≠ .faulted ∧ t = stepEnd s := by
  constructor
  · intro h
    have hm := (step_next_cases h).1
    rw [step_eq_stepEnd hm] at h
    exact ⟨hm, (Host.Outcome.next.inj h).symm⟩
  · rintro ⟨hm, rfl⟩
    exact step_eq_stepEnd hm

/-! ## The clock is not observed (10_state R55, 60_exceptions R462) -/

/-- The same machine with another clock. -/
def withClock (n : Nat) (s : State) : State := { s with clock := n }

@[simp] theorem withClock_clock (n : Nat) (s : State) : (withClock n s).clock = n := rfl
@[simp] theorem withClock_ime (n : Nat) (s : State) : (withClock n s).ime = s.ime := rfl
@[simp] theorem withClock_imePending (n : Nat) (s : State) : (withClock n s).imePending = s.imePending := rfl
@[simp] theorem withClock_mode (n : Nat) (s : State) : (withClock n s).mode = s.mode := rfl
@[simp] theorem withClock_irq (n : Nat) (s : State) : (withClock n s).irq = s.irq := rfl
@[simp] theorem withClock_tima (n : Nat) (s : State) : (withClock n s).tima = s.tima := rfl
@[simp] theorem withClock_tac (n : Nat) (s : State) : (withClock n s).tac = s.tac := rfl
@[simp] theorem withClock_tsub (n : Nat) (s : State) : (withClock n s).tsub = s.tsub := rfl
@[simp] theorem withClock_cart (n : Nat) (s : State) : (withClock n s).cart = s.cart := rfl

theorem xramOn_withClock (n : Nat) (s : State) : xramOn (withClock n s) = xramOn s := rfl

theorem cartWrite_withClock (addr : Word) (v : Byte) (n : Nat) (s : State) :
    cartWrite addr v (withClock n s) = withClock n (cartWrite addr v s) := by
  cases hm : s.cart.mapper with
  | noMapper => simp only [cartWrite, withClock_cart, hm]
  | banked =>
    simp only [cartWrite, withClock_cart, hm]
    split_ifs <;> rfl

theorem memWrite_withClock (addr : Word) (v : Byte) (n : Nat) (s : State) :
    memWrite addr v (withClock n s) = withClock n (memWrite addr v s) := by
  cases hr : regionOf addr <;> simp only [memWrite, hr]
  case romFixed | romBanked => exact cartWrite_withClock addr v n s
  case xram =>
    rw [xramOn_withClock]
    split <;> rfl
  all_goals rfl

theorem memWrite16_withClock (addr v : Word) (n : Nat) (s : State) :
    memWrite16 addr v (withClock n s) = withClock n (memWrite16 addr v s) := by
  rw [memWrite16, memWrite_withClock, memWrite_withClock, memWrite16]

theorem pushByte_withClock (v : Byte) (n : Nat) (s : State) :
    pushByte v (withClock n s) = withClock n (pushByte v s) :=
  memWrite_withClock (s.sp - 1#16) v n { s with sp := s.sp - 1#16 }

theorem push16_withClock (v : Word) (n : Nat) (s : State) :
    push16 v (withClock n s) = withClock n (push16 v s) := by
  rw [push16_eq, pushByte_withClock, pushByte_withClock, push16_eq]

theorem setReg_withClock (r : Reg8) (v : Byte) (n : Nat) (s : State) :
    setReg r v (withClock n s) = withClock n (setReg r v s) := by cases r <;> rfl

theorem setOpnd_withClock (o : Opnd) (v : Byte) (n : Nat) (s : State) :
    setOpnd o v (withClock n s) = withClock n (setOpnd o v s) := by
  cases o with
  | reg r => exact setReg_withClock r v n s
  | memHl => exact memWrite_withClock _ v n s

theorem setPair_withClock (p : Pair) (v : Word) (n : Nat) (s : State) :
    setPair p v (withClock n s) = withClock n (setPair p v s) := by cases p <;> rfl

theorem setStackPair_withClock (p : StackPair) (v : Word) (n : Nat) (s : State) :
    setStackPair p v (withClock n s) = withClock n (setStackPair p v s) := by cases p <;> rfl

theorem setOpnd_flags_withClock (o : Opnd) (v f : Byte) (c n : Nat) (s : State) :
    withCost c { setOpnd o v (withClock n s) with f := f } =
      withClock n (withCost c { setOpnd o v s with f := f }) := by
  rw [setOpnd_withClock]
  rfl

theorem condHolds_withClock (k : Cond) (n : Nat) (s : State) : condHolds k (withClock n s) = condHolds k s := rfl

theorem pendingSet_withClock (n : Nat) (s : State) : pendingSet (withClock n s) = pendingSet s := rfl

theorem callTo_withClock (c : Nat) (target : Word) (n : Nat) (s : State) :
    callTo c target (withClock n s) = withClock n (callTo c target s) :=
  congrArg (jumpTo c target) (push16_withClock s.pc n s)

theorem cbEntry_withClock (op2 : Byte) (n : Nat) (s : State) :
    cbEntry op2 (withClock n s) = withClock n (cbEntry op2 s) := by
  unfold cbEntry
  split
  · exact setOpnd_flags_withClock ..
  · rfl
  · exact congrArg (withCost _) (setOpnd_withClock ..)
  · exact congrArg (withCost _) (setOpnd_withClock ..)

/-- No form reads the clock or writes it. -/
theorem run_withClock (f : Form) (n : Nat) (s : State) :
    Laws.Form.run f (withClock n s) = withClock n (Laws.Form.run f s) := by
  cases f
  case ldRegReg | ldRegImm | ldRegMem => exact congrArg (withCost _) (setReg_withClock ..)
  case ldMemReg | ldMemImm | ldBcA | ldDeA | ldNnA | ldhCA | ldhNA =>
    exact congrArg (withCost _) (memWrite_withClock ..)
  case ldDecA | ldIncA => exact congrArg (fun u => withCost 8 (setHl _ u)) (memWrite_withClock (getHl s) s.a n s)
  case ldPairImm | incPair | decPair => exact congrArg (withCost _) (setPair_withClock ..)
  case ldNnSp => exact congrArg (withCost _) (memWrite16_withClock ..)
  case push => exact congrArg (withCost _) (push16_withClock ..)
  case pop p => exact congrArg (withCost _) (setStackPair_withClock p (popValue s) n (popState s))
  case inc | dec | rot => exact setOpnd_flags_withClock ..
  case res | set => exact congrArg (withCost _) (setOpnd_withClock ..)
  case jpCond k nn =>
    show jpCond k nn (withClock n s) = withClock n (jpCond k nn s)
    unfold jpCond
    rw [condHolds_withClock]
    split <;> rfl
  case jrCond k e =>
    show jrCond k e (withClock n s) = withClock n (jrCond k e s)
    unfold jrCond
    rw [condHolds_withClock]
    split <;> rfl
  case call | rst => exact callTo_withClock ..
  case callCond k nn =>
    show callCond k nn (withClock n s) = withClock n (callCond k nn s)
    unfold callCond
    rw [condHolds_withClock]
    split
    · exact callTo_withClock ..
    · rfl
  case retCond k =>
    show retCond k (withClock n s) = withClock n (retCond k s)
    unfold retCond
    rw [condHolds_withClock]
    split <;> rfl
  case halt =>
    show haltOp (withClock n s) = withClock n (haltOp s)
    unfold haltOp
    rw [withClock_ime, pendingSet_withClock]
    split <;> rfl
  case prefixCb => exact cbEntry_withClock (memRead s s.pc) n { s with pc := s.pc + 1#16 }
  all_goals rfl

theorem run_clock (f : Form) (s : State) : (Laws.Form.run f s).clock = s.clock :=
  calc (Laws.Form.run f s).clock = (Laws.Form.run f (withClock s.clock s)).clock := rfl
    _ = s.clock := by rw [run_withClock, withClock_clock]

/-! ### The parts of a step -/

theorem timaIncrement_withClock (n : Nat) (s : State) :
    timaIncrement (withClock n s) = (withClock n (timaIncrement s).1, (timaIncrement s).2) := by
  unfold timaIncrement
  rw [withClock_tima]
  split <;> rfl

theorem tickLoop_withClock (period n : Nat) : ∀ (fuel : Nat) (s : State) (k : Nat),
    (tickLoop fuel period (withClock n s) k).1 = withClock n (tickLoop fuel period s k).1
  | 0, _, _ => rfl
  | fuel + 1, s, k => by
    have hpass := timaIncrement_withClock n { s with tsub := s.tsub - period }
    rw [tickLoop, tickLoop, withClock_tsub]
    split
    · exact hpass ▸ tickLoop_withClock period n fuel _ _
    · rfl

theorem tick_withClock (c n : Nat) (s : State) : tick c (withClock n s) = withClock n (tick c s) := by
  unfold tick tickCount
  rw [withClock_tac]
  dsimp only
  split
  · exact tickLoop_withClock _ n _ { s with div := s.div + BitVec.ofNat 16 c, tsub := s.tsub + c } 0
  · rfl

theorem finish_withClock (n : Nat) (s : State) : finish (withClock n s) = withClock (n + s.cycles) (finish s) :=
  tick_withClock s.cycles (n + s.cycles) { s with clock := s.clock + s.cycles }

/-- The end of a step advances every clock by the same amount. -/
theorem finish_withClock_advance {s u : State} (h : u.clock = s.clock) (n : Nat) :
    finish (withClock n u) = withClock (n + ((finish u).clock - s.clock)) (finish u) := by
  rw [finish_withClock, finish_clock, h, Nat.add_sub_cancel_left]

theorem wake_withClock (n : Nat) (s : State) : wake (withClock n s) = withClock n (wake s) := by
  rw [wake, wake, withClock_mode]
  cases s.mode with
  | running | faulted => rfl
  | halted =>
    dsimp only
    rw [pendingSet_withClock]
    split <;> rfl
  | stopped =>
    dsimp only
    rw [withClock_irq]
    split <;> rfl

theorem service_withClock (k : Source) (n : Nat) (s : State) :
    service k (withClock n s) = withClock n (service k s) :=
  congrArg (fun u => withCost serviceCycles { acknowledge k u with pc := k.serviceAddress })
    (push16_withClock s.pc n { s with ime := false, imePending := false, haltBug := false })

theorem promoteIme_withClock (promote : Bool) (n : Nat) (s : State) :
    promoteIme promote (withClock n s) = withClock n (promoteIme promote s) := by
  unfold promoteIme
  rw [withClock_imePending]
  split <;> rfl

theorem instructionEnd_withClock (n : Nat) (s : State) :
    instructionEnd (withClock n s) = withClock (n + ((instructionEnd s).clock - s.clock)) (instructionEnd s) := by
  have hrun := run_withClock (fetchInstr s).form n (afterFetch (opLength (fetchOpcode s)) s)
  have hend := congrArg (promoteIme s.imePending) hrun
  rw [promoteIme_withClock] at hend
  refine (congrArg finish hend).trans (finish_withClock_advance ?_ n)
  rw [promoteIme_clock, run_clock, afterFetch_clock]

theorem runningEnd_withClock (n : Nat) (s : State) :
    runningEnd (withClock n s) = withClock (n + ((runningEnd s).clock - s.clock)) (runningEnd s) := by
  unfold runningEnd
  rw [withClock_ime, pendingSet_withClock]
  cases if s.ime then highestPending (pendingSet s) else none with
  | some k =>
    dsimp only
    rw [service_withClock]
    exact finish_withClock_advance (service_clock k s) n
  | none =>
    show (if isUndefined (fetchOpcode s) then Laws.Form.run (fetchInstr s).form (withClock n s)
      else instructionEnd (withClock n s)) = _
    dsimp only
    split
    · rw [run_withClock, run_clock, Nat.sub_self, Nat.add_zero]
    · exact instructionEnd_withClock n s

theorem stepEnd_withClock (n : Nat) (s : State) :
    stepEnd (withClock n s) = withClock (n + ((stepEnd s).clock - s.clock)) (stepEnd s) := by
  unfold stepEnd
  rw [wake_withClock, withClock_mode]
  split
  · rw [runningEnd_withClock, wake_clock]
  · exact finish_withClock_advance (u := withCost idleCycles s) rfl n

/-! ## The obligations -/

/-- Settles O43: by the four kinds of step; the opcode byte says whether the instruction is `RETI` or `DI`. -/
theorem masterEnableChangesOnlyBy : Obligations.MasterEnableChangesOnlyBy := by
  refine ⟨fun s t h => ?_, fun s addr v on => ⟨memWrite_ime addr v s, rfl⟩⟩
  obtain ⟨-, ⟨-, rfl⟩ | ⟨k, -, -, hk, rfl⟩ | ⟨-, -, rfl⟩ | ⟨-, -, rfl⟩⟩ := step_next_cases h
  · have hime : (idle s).ime = s.ime := finish_ime _
    rw [hime]
    exact ⟨fun h0 h1 => by simp [h0] at h1, fun h1 h0 => by simp [h1] at h0⟩
  · rw [pendingSet_wake, highestPending_pendingSet_iff] at hk
    exact ⟨fun _ ht => by simp at ht, fun _ _ => Or.inl ⟨k, hk⟩⟩
  · rw [← fetchOpcode_wake, ← wake_ime s]
    exact ⟨fun h0 h1 => Or.inr (fetchOpcode_of_form (eq_reti_of_run_sets_ime h0 h1) rfl),
      fun h1 h0 => Or.inr (fetchOpcode_of_form (eq_di_of_run_clears_ime h1 h0) rfl)⟩
  · rw [← fetchOpcode_wake, ← wake_ime s, ← wake_imePending s, instructionEnd, finish_ime, promoteIme_ime,
      Bool.or_eq_true, Bool.and_eq_true, Bool.or_eq_false_iff]
    have hfetch : (afterFetch (opLength (fetchOpcode (wake s))) (wake s)).ime = (wake s).ime := afterFetch_ime _ _
    rw [← hfetch]
    exact ⟨fun h0 h1 => h1.imp And.left fun hr => fetchOpcode_of_form (eq_reti_of_run_sets_ime h0 hr) rfl,
      fun h1 h0 => Or.inr (fetchOpcode_of_form (eq_di_of_run_clears_ime h1 h0.2) rfl)⟩

/-- Settles O53: the four kinds of step, each with the lemma that its part keeps the invariant. -/
theorem stepKeepsInvariant : Obligations.StepKeepsInvariant := by
  intro s t hs h
  have hwake := wake_inv hs
  obtain ⟨-, ⟨-, rfl⟩ | ⟨k, -, -, -, rfl⟩ | ⟨-, hu, rfl⟩ | ⟨hrun, -, rfl⟩⟩ := step_next_cases h
  · exact finish_inv hs
  · exact finish_inv (service_inv k hwake)
  · rw [form_fetchInstr_of_isUndefined hu]
    exact raiseUndefined_inv _ hwake
  · exact instructionEnd_inv hwake hrun

/-- Settles O58: the state a step ends in, as a function of the state, commutes with a change of the clock. -/
theorem clockIsNotObserved : Obligations.ClockIsNotObserved := by
  intro s t n h
  obtain ⟨hm, rfl⟩ := step_next_iff.1 h
  exact step_next_iff.2 ⟨hm, (stepEnd_withClock n s).symm⟩

/-- Settles O59: the four kinds of step, none of which touches the configuration. -/
theorem configurationNeverChanges : Obligations.ConfigurationNeverChanges := by
  refine ⟨fun s t h => ?_, fun s x v => memWrite_cart x v s⟩
  obtain ⟨-, ⟨-, rfl⟩ | ⟨k, -, -, -, rfl⟩ | ⟨-, -, rfl⟩ | ⟨-, -, rfl⟩⟩ := step_next_cases h
  · simp [idle]
  · simp
  · simp [run_cart]
  · simp [instructionEnd, run_cart]

/-- Settles O50: the pairs by the value of a concatenation, the registers by their cases. -/
theorem registersPairsAndOperands : Obligations.RegistersPairsAndOperands := by
  intro s v w
  refine ⟨⟨pairOf_toNat _ _, pairOf_toNat _ _, pairOf_toNat _ _, pairOf_toNat _ _⟩, ⟨?_, ?_, ?_⟩, ?_, ?_, ?_,
    ⟨rfl, rfl, rfl, rfl⟩, fun r => ⟨rfl, rfl, rfl⟩⟩
  · rw [setBc, hiByte_eq_ofNat, loByte_eq_ofNat]
  · rw [setDe, hiByte_eq_ofNat, loByte_eq_ofNat]
  · rw [setHl, hiByte_eq_ofNat, loByte_eq_ofNat]
  · have hl := s.l.isLt
    rw [getHl, getHl, pairOf_toNat, pairOf_toNat]
    show 256 * s.h.toNat + w.toNat = (256 * s.h.toNat + s.l.toNat) / 256 * 256 + w.toNat
    omega
  · intro r r'
    split
    · next h => rw [h, getReg_setReg]
    · next h => exact getReg_setReg_other h w s
  · intro r
    exact ⟨setReg r w s, by cases r <;> rfl⟩

/-- Settles O51: reset is launch, whose fields are written out. -/
theorem resetValues : Obligations.ResetValues := by
  refine ⟨fun k w h v o x => ?_, fun _ _ _ _ _ _ => rfl, Cartridge.base, [], [], [], [], [], rfl⟩
  refine ⟨⟨rfl, rfl, rfl⟩, ⟨rfl, rfl, rfl, rfl, rfl, rfl, rfl, ?_⟩, ⟨rfl, rfl, rfl, rfl, rfl, rfl, ?_⟩, rfl, rfl, ?_⟩
  · show 0xE0#8 ||| (0#5).zeroExtend 8 = 0xE0#8
    decide
  · show 0xF8#8 ||| (0#3).zeroExtend 8 = 0xF8#8
    decide
  · simp [State.launch]

/-- Settles O52: a launch meets the invariant, and `State.reset` is the launch of the base cartridge. -/
theorem resetMeetsInvariant : Obligations.ResetMeetsInvariant :=
  ⟨fun _ _ _ _ _ _ hk hw hh hv ho hx => launch_inv hk hw hh hv ho hx, launch_inv (by decide) rfl rfl rfl rfl rfl⟩

end Sys2Proof.Machine
end

section
/-! PROOFS. The memory: which region owns an address, what a byte write changes and leaves as it was, reading back, the
frame of every form, the isolation of a disabled external RAM, and the statements settled by them. -/

namespace Sys2Proof.Machine

open Sys2Proof Sys2Proof.Claims

/-! ## Regions and cells -/

/-- The regions' bounds decide the owner of an address: the converse of `regionOf_bounds`. -/
theorem regionOf_eq {r : Region} {addr : Word} (h : r.Bounds addr.toNat) : regionOf addr = r := by
  cases r <;> simp only [Region.Bounds] at h <;> simp (disch := omega) only [regionOf, if_pos, if_neg]

theorem bounds_of_regionOf {r : Region} {addr : Word} (h : regionOf addr = r) : r.Bounds addr.toNat :=
  h ▸ regionOf_bounds addr

theorem xramOn_eq_true_iff (s : State) : xramOn s = true ↔ s.ramEnable = true ∧ 0 < s.cart.ramBanks := by
  rw [xramOn, Bool.and_eq_true, decide_eq_true_eq]

theorem xramOn_eq_false {s : State} (h : s.ramEnable = false ∨ s.cart.ramBanks = 0) : xramOn s = false := by
  rcases h with h | h <;> simp [xramOn, h]

/-- Two addresses name the same cell when they are equal or one is the echo of the other (20_memory R99). -/
theorem cellOf_eq_iff (x y : Word) : cellOf x = cellOf y ↔ x.toNat = y.toNat ∨
    (0xE000 ≤ x.toNat ∧ x.toNat < 0xFE00 ∧ x.toNat = y.toNat + 0x2000) ∨
    (0xE000 ≤ y.toNat ∧ y.toNat < 0xFE00 ∧ y.toNat = x.toNat + 0x2000) := by
  unfold cellOf
  split_ifs <;> omega

/-! ## What a write changes, and what it leaves as it was -/

theorem memWrite_of_lt {addr : Word} (h : addr.toNat < 0x8000) (v : Byte) (s : State) :
    memWrite addr v s = cartWrite addr v s := by
  by_cases hl : addr.toNat < 0x4000
  · simp only [memWrite, regionOf_eq (r := .romFixed) hl]
  · simp only [memWrite, regionOf_eq (r := .romBanked) ⟨Nat.not_lt.1 hl, h⟩]

/-- A write to the cartridge's latches is seen in the two banked windows alone. -/
theorem memRead_cartWrite {x : Word} (hrom : ¬(0x4000 ≤ x.toNat ∧ x.toNat < 0x8000))
    (hxram : ¬(0xA000 ≤ x.toNat ∧ x.toNat < 0xC000)) (addr : Word) (v : Byte) (s : State) :
    memRead (cartWrite addr v s) x = memRead s x := by
  rw [cartWrite_eq]
  unfold memRead
  cases hx : regionOf x
  case romBanked => exact absurd (bounds_of_regionOf hx) hrom
  case xram => exact absurd (bounds_of_regionOf hx) hxram
  all_goals rfl

theorem memWrite_xram_on {addr : Word} {s : State} (h : regionOf addr = .xram) (hon : xramOn s = true) (v : Byte) :
    memWrite addr v s = { s with xram := s.xram.write (xramOffset s addr) v } := by
  simp only [memWrite, h, hon, if_true]

theorem memWrite_xram_off {addr : Word} {s : State} (h : regionOf addr = .xram) (hoff : xramOn s = false) (v : Byte) :
    memWrite addr v s = s := by
  simp only [memWrite, h, hoff, Bool.false_eq_true, if_false]

/-- A write to the external RAM is seen at no other address: one bank is mapped at a time (20_memory R124). -/
theorem memRead_memWrite_xram {addr x : Word} (h : regionOf addr = .xram) (hne : x.toNat ≠ addr.toNat) (v : Byte)
    (s : State) : memRead (memWrite addr v s) x = memRead s x := by
  cases hon : xramOn s
  case false => rw [memWrite_xram_off h hon]
  case true =>
    rw [memWrite_xram_on h hon]
    unfold memRead
    cases hx : regionOf x
    case xram =>
      obtain ⟨ha, -⟩ := bounds_of_regionOf h
      obtain ⟨hb, -⟩ := bounds_of_regionOf hx
      have hoff : xramOffset s x ≠ xramOffset s addr := by unfold xramOffset; omega
      exact congrArg (fun b => if xramOn s then b else sentinel) (Memory.read_write_other hoff v s.xram)
    all_goals rfl

/-- The frame of a byte write (20_memory R147): an address it cannot touch reads as before. -/
theorem memRead_memWrite_frame {addr x : Word} (h : ¬mayTouch addr x) (v : Byte) (s : State) :
    memRead (memWrite addr v s) x = memRead s x := by
  simp only [mayTouch, not_or, cellOf_eq_iff] at h
  obtain ⟨hcell, hlatch, hcounter⟩ := h
  by_cases hrom : addr.toNat < 0x8000
  · rw [memWrite_of_lt hrom]
    exact memRead_cartWrite (fun hx => hlatch ⟨hrom, .inl hx⟩) (fun hx => hlatch ⟨hrom, .inr hx⟩) addr v s
  by_cases hxram : regionOf addr = .xram
  · exact memRead_memWrite_xram hxram hcell.1 v s
  have hba := regionOf_bounds addr
  have hbx := regionOf_bounds x
  unfold memRead memWrite
  cases ha : regionOf addr
  case romFixed | romBanked =>
    simp only [ha, Region.Bounds] at hba
    omega
  case xram => exact absurd ha hxram
  case unused => rfl
  -- what is left: a read in a storage of its own is not affected, in the same storage it is at another index
  all_goals cases hx : regionOf x
  case vram.vram | wram.wram | wram.echo | echo.wram | echo.echo | oam.oam | io.io | hram.hram =>
    simp only [ha, hx, Region.Bounds] at hba hbx
    exact Memory.read_write_other (by omega) v _
  case div.div | div.tima | tima.tima | tma.tma | tac.tac | irq.irq | ie.ie =>
    simp only [ha, hx, Region.Bounds] at hba hbx
    omega
  all_goals rfl

/-! ## Reading back -/

theorem xramOn_of_plainCell {s : State} {addr : Word} (hr : regionOf addr = .xram) (hp : plainCell s addr) :
    xramOn s = true := by
  have hb := bounds_of_regionOf hr
  simp only [Region.Bounds] at hb
  rcases hp with hp | ⟨-, -, hp⟩ | hp | hp
  · omega
  · exact (xramOn_eq_true_iff s).2 hp
  · omega
  · omega

/-- A byte written to plain storage in canonical form reads back (20_memory R147). -/
theorem memRead_memWrite_same {s : State} {addr : Word} (hm : s.MemInv) (hp : plainCell s addr) (v : Byte) :
    memRead (memWrite addr v s) addr = v := by
  obtain ⟨hwram, hhram, hio, hvram, hoam, hxram, -⟩ := hm
  unfold plainCell at hp
  have hb := regionOf_bounds addr
  unfold memRead memWrite
  cases hr : regionOf addr
  case vram => exact Memory.read_write_same hvram _ v
  case wram | echo => exact Memory.read_write_same hwram _ v
  case oam => exact Memory.read_write_same hoam _ v
  case io => exact Memory.read_write_same hio _ v
  case hram => exact Memory.read_write_same hhram _ v
  case tima | tma | ie => rfl
  case xram =>
    have hon := xramOn_of_plainCell hr hp
    simp only [hon, if_true]
    exact (if_pos hon).trans (Memory.read_write_same hxram _ v)
  all_goals
    simp only [hr, Region.Bounds] at hb
    omega

/-- An address of the echo reads the work RAM below it (20_memory R99). -/
theorem memRead_echo {x y : Word} (h1 : 0xE000 ≤ x.toNat) (h2 : x.toNat < 0xFE00) (h : x.toNat = y.toNat + 0x2000)
    (s : State) : memRead s x = memRead s y := by
  have hindex : x.toNat - 0xE000 = y.toNat - 0xC000 := by omega
  have hy : regionOf y = .wram := regionOf_eq (r := .wram) ⟨by omega, by omega⟩
  simp only [memRead, regionOf_eq (r := .echo) ⟨h1, h2⟩, hy, hindex]

theorem memRead_congr_cellOf {x y : Word} (h : cellOf x = cellOf y) (s : State) : memRead s x = memRead s y := by
  rcases (cellOf_eq_iff x y).1 h with h | ⟨h1, h2, h⟩ | ⟨h1, h2, h⟩
  · rw [BitVec.eq_of_toNat_eq h]
  · exact memRead_echo h1 h2 h s
  · exact (memRead_echo h1 h2 h s).symm

theorem not_mayTouch_of_plainCell {s : State} {addr x : Word} (hp : plainCell s addr) (h : cellOf x ≠ cellOf addr) :
    ¬mayTouch addr x := by
  unfold plainCell at hp
  rintro (hcell | hlatch | hdiv)
  · exact h hcell
  all_goals omega

/-! ## The frame of every form -/

theorem flagZ_eq (f : Byte) : flagZ f = zOf f := (Nat.testBit_eq_decide_div_mod_eq (i := 7)).symm

theorem flagC_eq (f : Byte) : flagC f = cOf f := (Nat.testBit_eq_decide_div_mod_eq (i := 4)).symm

/-- The model's condition is the spec's (45_control R340). -/
theorem condHolds_eq_condTrue (k : Cond) (s : State) : condHolds k s = condTrue k s.f := by
  cases k <;> simp only [condHolds, condTrue, flagZ_eq, flagC_eq]

theorem ofCode_eq_memHl_iff (k : BitVec 3) : Opnd.ofCode k = .memHl ↔ k.toNat = 6 := by
  revert k
  decide

/-- A CB-page entry stores to its operand, unless it is `BIT` (44_rotate_shift_bit R314, R323). -/
theorem cbStores_eq {op2 : Byte} (h : (op2.extractLsb' 6 2).toNat ≠ 1) (s : State) :
    cbStores op2 s = atHl (Opnd.ofCode (op2.extractLsb' 0 3)) s := by
  have hx : (op2.extractLsb' 6 2).toNat = fieldX op2 := by
    have := op2.isLt
    rw [BitVec.extractLsb'_toNat, Nat.shiftRight_eq_div_pow, fieldX]
    omega
  have hz : Opnd.ofCode (op2.extractLsb' 0 3) = .memHl ↔ fieldZ op2 = 6 := by
    rw [ofCode_eq_memHl_iff, BitVec.extractLsb'_toNat, fieldZ]
    rfl
  rw [hx] at h
  simp only [cbStores, atHl, hz, h, ne_eq, not_false_eq_true, and_true]

/-- A read sees no register, no control state and no recorded cost (20_memory R82). -/
theorem memRead_cpu (s : State) (a f b c d e h l : Byte) (sp pc : Word) (ime imePending haltBug : Bool) (mode : Mode)
    (fault : Option FaultRecord) (n : Nat) (x : Word) : memRead { s with
      a := a, f := f, b := b, c := c, d := d, e := e, h := h, l := l, sp := sp, pc := pc, ime := ime
      imePending := imePending, haltBug := haltBug, mode := mode, fault := fault, cycles := n } x = memRead s x := rfl

@[simp] theorem memRead_withCost (n : Nat) (s : State) (x : Word) : memRead (withCost n s) x = memRead s x :=
  memRead_cpu s ..

theorem memRead_setReg (r : Reg8) (v : Byte) (s : State) (x : Word) : memRead (setReg r v s) x = memRead s x := by
  cases r <;> exact memRead_cpu s ..

theorem memRead_setPair (p : Pair) (v : Word) (s : State) (x : Word) : memRead (setPair p v s) x = memRead s x := by
  cases p <;> exact memRead_cpu s ..

theorem memRead_setStackPair (p : StackPair) (v : Word) (s : State) (x : Word) :
    memRead (setStackPair p v s) x = memRead s x := by
  cases p <;> exact memRead_cpu s ..

section Frame

variable {x : Word} {s : State}

theorem memRead_setOpnd_frame {o : Opnd} (h : ∀ addr ∈ atHl o s, ¬mayTouch addr x) (v : Byte) :
    memRead (setOpnd o v s) x = memRead s x := by
  cases o with
  | reg r => exact memRead_setReg r v s x
  | memHl => exact memRead_memWrite_frame (h _ (List.mem_singleton_self _)) v s

/-- An operand write, then the flags and the cost. -/
theorem memRead_setOpnd_flags_frame {o : Opnd} (h : ∀ addr ∈ atHl o s, ¬mayTouch addr x) (v f : Byte) (n : Nat) :
    memRead (withCost n { setOpnd o v s with f := f }) x = memRead s x :=
  (memRead_cpu (setOpnd o v s) ..).trans (memRead_setOpnd_frame h v)

theorem memRead_push16_frame (h : ∀ addr ∈ stackSlots s, ¬mayTouch addr x) (v : Word) :
    memRead (push16 v s) x = memRead s x := by
  simp only [stackSlots, List.mem_cons, List.not_mem_nil, or_false, forall_eq_or_imp, forall_eq] at h
  obtain ⟨hhi, hlo⟩ := h
  have hslot : (pushByte (hiByte v) s).sp - 1#16 = s.sp - 2#16 := by
    rw [pushByte, memWrite_sp]
    show s.sp - 1#16 - 1#16 = s.sp - 2#16
    bv_omega
  rw [push16_eq]
  calc memRead (pushByte (loByte v) (pushByte (hiByte v) s)) x
      = memRead (pushByte (hiByte v) s) x := memRead_memWrite_frame (hslot ▸ hlo) _ _
    _ = memRead s x := memRead_memWrite_frame hhi _ _

theorem memRead_callTo_frame (h : ∀ addr ∈ stackSlots s, ¬mayTouch addr x) (n : Nat) (target : Word) :
    memRead (callTo n target s) x = memRead s x :=
  (memRead_cpu (push16 s.pc s) ..).trans (memRead_push16_frame h s.pc)

theorem memRead_memWrite16_frame {a : Word} (h : ∀ addr ∈ [a, a + 1#16], ¬mayTouch addr x) (v : Word) :
    memRead (memWrite16 a v s) x = memRead s x := by
  simp only [List.mem_cons, List.not_mem_nil, or_false, forall_eq_or_imp, forall_eq] at h
  rw [memWrite16, memRead_memWrite_frame h.2, memRead_memWrite_frame h.1]

theorem memRead_cbEntry_frame {op2 : Byte} (h : ∀ addr ∈ cbStores op2 s, ¬mayTouch addr x) :
    memRead (cbEntry op2 s) x = memRead s x := by
  by_cases hbit : (op2.extractLsb' 6 2).toNat = 1
  · unfold cbEntry
    rw [hbit]
    exact memRead_cpu s ..
  · rw [cbStores_eq hbit] at h
    unfold cbEntry
    split
    · exact memRead_setOpnd_flags_frame h ..
    · next hone => exact absurd hone hbit
    · exact (memRead_withCost ..).trans (memRead_setOpnd_frame h _)
    · exact (memRead_withCost ..).trans (memRead_setOpnd_frame h _)

/-- Every form leaves every byte as it was but for what its own stores can touch. -/
theorem memRead_run_frame {f : Form} (h : ∀ addr ∈ storesTo f s, ¬mayTouch addr x) :
    memRead (Laws.Form.run f s) x = memRead s x := by
  cases f
  case ldRegReg | ldRegImm | ldRegMem => exact (memRead_withCost ..).trans (memRead_setReg ..)
  case ldPairImm | incPair | decPair => exact (memRead_withCost ..).trans (memRead_setPair ..)
  case pop p =>
    exact (memRead_withCost ..).trans ((memRead_setStackPair p (popValue s) (popState s) x).trans (memRead_cpu s ..))
  case ldMemReg | ldMemImm | ldBcA | ldDeA | ldNnA | ldhCA | ldhNA =>
    exact (memRead_withCost ..).trans (memRead_memWrite_frame (h _ (List.mem_singleton_self _)) _ s)
  case ldDecA | ldIncA =>
    exact (memRead_withCost ..).trans ((memRead_setPair .hl _ (memWrite (getHl s) s.a s) x).trans
      (memRead_memWrite_frame (h _ (List.mem_singleton_self _)) s.a s))
  case ldNnSp nn => exact (memRead_withCost ..).trans (memRead_memWrite16_frame h _)
  case inc | dec | rot => exact memRead_setOpnd_flags_frame h ..
  case res | set => exact (memRead_withCost ..).trans (memRead_setOpnd_frame h _)
  case push => exact (memRead_withCost ..).trans (memRead_push16_frame h _)
  case call | rst => exact memRead_callTo_frame h ..
  case callCond k nn =>
    show memRead (callCond k nn s) x = memRead s x
    unfold callCond
    rw [condHolds_eq_condTrue]
    split
    · next hc => exact memRead_callTo_frame (fun addr ha => h addr (by rwa [storesTo, if_pos hc])) 24 nn
    · exact memRead_withCost ..
  case jpCond k nn =>
    show memRead (jpCond k nn s) x = memRead s x
    unfold jpCond
    split <;> exact memRead_cpu s ..
  case jrCond k e =>
    show memRead (jrCond k e s) x = memRead s x
    unfold jrCond
    split <;> exact memRead_cpu s ..
  case retCond k =>
    show memRead (retCond k s) x = memRead s x
    unfold retCond
    split <;> exact memRead_cpu s ..
  case halt =>
    show memRead (haltOp s) x = memRead s x
    rw [haltOp_eq]
    exact memRead_cpu s ..
  case prefixCb => exact memRead_cbEntry_frame (s := { s with pc := s.pc + 1#16 }) h
  all_goals exact memRead_cpu s ..

end Frame

/-! ## A disabled external RAM is isolated (20_memory R97, R135) -/

/-- The same machine with other contents of the external RAM. -/
def withXram (m : Memory) (s : State) : State := { s with xram := m }

@[simp] theorem withXram_ime (m : Memory) (s : State) : (withXram m s).ime = s.ime := rfl
@[simp] theorem withXram_imePending (m : Memory) (s : State) : (withXram m s).imePending = s.imePending := rfl
@[simp] theorem withXram_mode (m : Memory) (s : State) : (withXram m s).mode = s.mode := rfl
@[simp] theorem withXram_irq (m : Memory) (s : State) : (withXram m s).irq = s.irq := rfl
@[simp] theorem withXram_tima (m : Memory) (s : State) : (withXram m s).tima = s.tima := rfl
@[simp] theorem withXram_tac (m : Memory) (s : State) : (withXram m s).tac = s.tac := rfl
@[simp] theorem withXram_tsub (m : Memory) (s : State) : (withXram m s).tsub = s.tsub := rfl
@[simp] theorem withXram_cart (m : Memory) (s : State) : (withXram m s).cart = s.cart := rfl
@[simp] theorem xramOn_withXram (m : Memory) (s : State) : xramOn (withXram m s) = xramOn s := rfl
@[simp] theorem condHolds_withXram (k : Cond) (m : Memory) (s : State) :
    condHolds k (withXram m s) = condHolds k s := rfl
@[simp] theorem pendingSet_withXram (m : Memory) (s : State) : pendingSet (withXram m s) = pendingSet s := rfl
@[simp] theorem getReg_withXram (r : Reg8) (m : Memory) (s : State) : getReg r (withXram m s) = getReg r s := by
  cases r <;> rfl

theorem setReg_withXram (r : Reg8) (v : Byte) (m : Memory) (s : State) :
    setReg r v (withXram m s) = withXram m (setReg r v s) := by cases r <;> rfl

theorem setPair_withXram (p : Pair) (v : Word) (m : Memory) (s : State) :
    setPair p v (withXram m s) = withXram m (setPair p v s) := by cases p <;> rfl

theorem setStackPair_withXram (p : StackPair) (v : Word) (m : Memory) (s : State) :
    setStackPair p v (withXram m s) = withXram m (setStackPair p v s) := by cases p <;> rfl

/-! ### The timer, waking and the delayed enable see no external RAM -/

theorem timaIncrement_withXram (m : Memory) (s : State) :
    timaIncrement (withXram m s) = (withXram m (timaIncrement s).1, (timaIncrement s).2) := by
  unfold timaIncrement
  rw [withXram_tima]
  split <;> rfl

theorem tickLoop_withXram (period : Nat) (m : Memory) : ∀ (fuel : Nat) (s : State) (k : Nat),
    (tickLoop fuel period (withXram m s) k).1 = withXram m (tickLoop fuel period s k).1
  | 0, _, _ => rfl
  | fuel + 1, s, k => by
    have hpass := timaIncrement_withXram m { s with tsub := s.tsub - period }
    rw [tickLoop, tickLoop, withXram_tsub]
    split
    · exact hpass ▸ tickLoop_withXram period m fuel _ _
    · rfl

theorem tick_withXram (c : Nat) (m : Memory) (s : State) : tick c (withXram m s) = withXram m (tick c s) := by
  unfold tick tickCount
  rw [withXram_tac]
  dsimp only
  split
  · exact tickLoop_withXram _ m _ { s with div := s.div + BitVec.ofNat 16 c, tsub := s.tsub + c } 0
  · rfl

theorem finish_withXram (m : Memory) (s : State) : finish (withXram m s) = withXram m (finish s) :=
  tick_withXram s.cycles m { s with clock := s.clock + s.cycles }

theorem wake_withXram (m : Memory) (s : State) : wake (withXram m s) = withXram m (wake s) := by
  rw [wake, wake, withXram_mode]
  cases s.mode with
  | running | faulted => rfl
  | halted =>
    dsimp only
    rw [pendingSet_withXram]
    split <;> rfl
  | stopped =>
    dsimp only
    rw [withXram_irq]
    split <;> rfl

theorem promoteIme_withXram (promote : Bool) (m : Memory) (s : State) :
    promoteIme promote (withXram m s) = withXram m (promoteIme promote s) := by
  unfold promoteIme
  rw [withXram_imePending]
  split <;> rfl

/-! ### Writes -/

theorem cartWrite_withXram (addr : Word) (v : Byte) (m : Memory) (s : State) :
    cartWrite addr v (withXram m s) = withXram m (cartWrite addr v s) := by
  cases hm : s.cart.mapper with
  | noMapper => simp only [cartWrite, withXram_cart, hm]
  | banked =>
    simp only [cartWrite, withXram_cart, hm]
    split_ifs <;> rfl

/-- A write that does not reach the external RAM does not see its contents. -/
theorem memWrite_withXram {addr : Word} {s : State} (h : regionOf addr = .xram → xramOn s = false) (v : Byte)
    (m : Memory) : memWrite addr v (withXram m s) = withXram m (memWrite addr v s) := by
  by_cases hx : regionOf addr = .xram
  · rw [memWrite_xram_off hx (h hx), memWrite_xram_off hx ((xramOn_withXram m s).trans (h hx))]
  · unfold memWrite
    cases hr : regionOf addr
    case romFixed | romBanked => exact cartWrite_withXram addr v m s
    case xram => exact absurd hr hx
    all_goals rfl

/-- Only a write below 0x2000 can enable the external RAM (20_memory R128). -/
theorem cartWrite_ramEnable {addr : Word} (h : 0x2000 ≤ addr.toNat) (v : Byte) (s : State) :
    (cartWrite addr v s).ramEnable = s.ramEnable := by
  unfold cartWrite
  cases s.cart.mapper with
  | noMapper => rfl
  | banked =>
    dsimp only
    rw [if_neg (by omega)]
    split_ifs <;> rfl

theorem xramOn_memWrite {addr : Word} (h : 0x2000 ≤ addr.toNat) (v : Byte) (s : State) :
    xramOn (memWrite addr v s) = xramOn s := by
  have hen : (memWrite addr v s).ramEnable = s.ramEnable := by
    unfold memWrite
    cases regionOf addr
    case romFixed | romBanked => exact cartWrite_ramEnable h v s
    case xram =>
      dsimp only
      split <;> rfl
    all_goals rfl
  rw [xramOn, hen, memWrite_cart, xramOn]

/-- An address next to the external RAM's window is not one that enables it: two stores to neighbouring addresses cannot
first enable the external RAM and then reach it. -/
theorem le_toNat_of_next_xram {a b : Word} (hb : regionOf b = .xram) (h : b = a + 1#16 ∨ b = a - 1#16) :
    0x2000 ≤ a.toNat := by
  have hbounds := bounds_of_regionOf hb
  simp only [Region.Bounds] at hbounds
  rcases h with rfl | rfl <;> bv_omega

theorem pushByte_withXram {s : State} (h : regionOf (s.sp - 1#16) = .xram → xramOn s = false) (v : Byte) (m : Memory) :
    pushByte v (withXram m s) = withXram m (pushByte v s) :=
  memWrite_withXram (s := { s with sp := s.sp - 1#16 }) h v m

section Off

variable {s : State} (hoff : xramOn s = false)
include hoff

theorem memWrite16_withXram (addr v : Word) (m : Memory) :
    memWrite16 addr v (withXram m s) = withXram m (memWrite16 addr v s) := by
  have hnext : regionOf (addr + 1#16) = .xram → xramOn (memWrite addr (loByte v) s) = false := fun hx =>
    (xramOn_memWrite (le_toNat_of_next_xram hx (.inl rfl)) _ s).trans hoff
  rw [memWrite16, memWrite_withXram (fun _ => hoff), memWrite_withXram hnext, memWrite16]

theorem push16_withXram (v : Word) (m : Memory) : push16 v (withXram m s) = withXram m (push16 v s) := by
  have hnext : regionOf ((pushByte (hiByte v) s).sp - 1#16) = .xram → xramOn (pushByte (hiByte v) s) = false := by
    intro hx
    rw [pushByte, memWrite_sp] at hx
    exact (xramOn_memWrite (le_toNat_of_next_xram hx (.inr rfl)) _ _).trans hoff
  rw [push16_eq, pushByte_withXram (fun _ => hoff), pushByte_withXram hnext, push16_eq]

theorem callTo_withXram (n : Nat) (target : Word) (m : Memory) :
    callTo n target (withXram m s) = withXram m (callTo n target s) :=
  congrArg (jumpTo n target) (push16_withXram hoff s.pc m)

theorem setOpnd_withXram (o : Opnd) (v : Byte) (m : Memory) :
    setOpnd o v (withXram m s) = withXram m (setOpnd o v s) := by
  cases o with
  | reg r => exact setReg_withXram r v m s
  | memHl => exact memWrite_withXram (fun _ => hoff) v m

theorem setOpnd_flags_withXram (o : Opnd) (v f : Byte) (n : Nat) (m : Memory) :
    withCost n { setOpnd o v (withXram m s) with f := f } = withXram m (withCost n { setOpnd o v s with f := f }) := by
  rw [setOpnd_withXram hoff]
  rfl

/-! ### Reads -/

theorem memRead_withXram (m : Memory) (x : Word) : memRead (withXram m s) x = memRead s x := by
  unfold memRead
  cases hx : regionOf x
  case xram => simp only [xramOn_withXram, hoff, Bool.false_eq_true, if_false]
  all_goals rfl

theorem getOpnd_withXram (o : Opnd) (m : Memory) : getOpnd o (withXram m s) = getOpnd o s := by
  cases o with
  | reg r => exact getReg_withXram r m s
  | memHl => exact memRead_withXram hoff m _

theorem getSrc_withXram (src : Src) (m : Memory) : getSrc src (withXram m s) = getSrc src s := by
  cases src with
  | reg r => exact getReg_withXram r m s
  | memHl => exact memRead_withXram hoff m _
  | imm n => rfl

theorem popValue_withXram (m : Memory) : popValue (withXram m s) = popValue s :=
  congrArg₂ pairOf (memRead_withXram hoff m _) (memRead_withXram hoff m _)

theorem loadA_withXram (n : Nat) (addr : Word) (m : Memory) :
    loadA n addr (withXram m s) = withXram m (loadA n addr s) := by
  rw [loadA, memRead_withXram hoff]
  rfl

theorem loadAMove_withXram (move : Word) (m : Memory) :
    loadAMove move (withXram m s) = withXram m (loadAMove move s) := by
  rw [loadAMove, memRead_withXram hoff]
  rfl

theorem returnPc_withXram (m : Memory) : returnPc (withXram m s) = withXram m (returnPc s) := by
  rw [returnPc, popValue_withXram hoff]
  rfl

theorem rotOpnd_withXram (op : RotOp) (o : Opnd) (m : Memory) :
    rotOpnd op o (withXram m s) = withXram m (rotOpnd op o s) := by
  unfold rotOpnd
  rw [getOpnd_withXram hoff]
  exact setOpnd_flags_withXram hoff ..

theorem bitOpnd_withXram (k : BitVec 3) (o : Opnd) (m : Memory) :
    bitOpnd k o (withXram m s) = withXram m (bitOpnd k o s) := by
  rw [bitOpnd, getOpnd_withXram hoff]
  rfl

theorem resOpnd_withXram (k : BitVec 3) (o : Opnd) (m : Memory) :
    resOpnd k o (withXram m s) = withXram m (resOpnd k o s) := by
  rw [resOpnd, getOpnd_withXram hoff, setOpnd_withXram hoff]
  rfl

theorem setOpndBit_withXram (k : BitVec 3) (o : Opnd) (m : Memory) :
    setOpndBit k o (withXram m s) = withXram m (setOpndBit k o s) := by
  rw [setOpndBit, getOpnd_withXram hoff, setOpnd_withXram hoff]
  rfl

theorem cbEntry_withXram (op2 : Byte) (m : Memory) :
    cbEntry op2 (withXram m s) = withXram m (cbEntry op2 s) := by
  unfold cbEntry
  split
  · exact rotOpnd_withXram hoff ..
  · exact bitOpnd_withXram hoff ..
  · exact resOpnd_withXram hoff ..
  · exact setOpndBit_withXram hoff ..

/-- No form sees the contents of a disabled external RAM or changes them. -/
theorem run_withXram (f : Form) (m : Memory) :
    Laws.Form.run f (withXram m s) = withXram m (Laws.Form.run f s) := by
  have hwrite : ∀ (addr : Word) (v : Byte), memWrite addr v (withXram m s) = withXram m (memWrite addr v s) :=
    fun _ v => memWrite_withXram (fun _ => hoff) v m
  cases f
  case ldRegReg dst src =>
    show ldRegReg dst src (withXram m s) = withXram m (ldRegReg dst src s)
    rw [ldRegReg, getReg_withXram, setReg_withXram]
    rfl
  case ldRegImm => exact congrArg (withCost _) (setReg_withXram ..)
  case ldRegMem dst =>
    show ldRegMem dst (withXram m s) = withXram m (ldRegMem dst s)
    rw [ldRegMem, memRead_withXram hoff, setReg_withXram]
    rfl
  case ldABc | ldADe | ldANn | ldhAC | ldhAN => exact loadA_withXram hoff ..
  case ldADec | ldAInc => exact loadAMove_withXram hoff ..
  case ldMemReg src =>
    show ldMemReg src (withXram m s) = withXram m (ldMemReg src s)
    rw [ldMemReg, getReg_withXram, hwrite]
    rfl
  case ldMemImm | ldBcA | ldDeA | ldNnA | ldhCA | ldhNA => exact congrArg (withCost _) (hwrite ..)
  case ldDecA | ldIncA => exact congrArg (fun u => withCost 8 (setHl _ u)) (hwrite (getHl s) s.a)
  case ldPairImm => exact congrArg (withCost _) (setPair_withXram ..)
  case incPair p | decPair p => cases p <;> rfl
  case ldNnSp => exact congrArg (withCost _) (memWrite16_withXram hoff ..)
  case push p => cases p <;> exact congrArg (withCost _) (push16_withXram hoff ..)
  case pop p =>
    show withCost 12 (setStackPair p (popValue (withXram m s)) (withXram m (popState s))) = withXram m (popPair p s)
    rw [popValue_withXram hoff, setStackPair_withXram]
    rfl
  case alu op src =>
    show aluOp op src (withXram m s) = withXram m (aluOp op src s)
    unfold aluOp
    rw [getSrc_withXram hoff]
    rfl
  case inc o =>
    show incOpnd o (withXram m s) = withXram m (incOpnd o s)
    unfold incOpnd
    rw [getOpnd_withXram hoff]
    exact setOpnd_flags_withXram hoff ..
  case dec o =>
    show decOpnd o (withXram m s) = withXram m (decOpnd o s)
    unfold decOpnd
    rw [getOpnd_withXram hoff]
    exact setOpnd_flags_withXram hoff ..
  case rot => exact rotOpnd_withXram hoff ..
  case bit => exact bitOpnd_withXram hoff ..
  case res => exact resOpnd_withXram hoff ..
  case set => exact setOpndBit_withXram hoff ..
  case jpCond k nn =>
    show jpCond k nn (withXram m s) = withXram m (jpCond k nn s)
    unfold jpCond
    rw [condHolds_withXram]
    split <;> rfl
  case jrCond k e =>
    show jrCond k e (withXram m s) = withXram m (jrCond k e s)
    unfold jrCond
    rw [condHolds_withXram]
    split <;> rfl
  case call | rst => exact callTo_withXram hoff ..
  case callCond k nn =>
    show callCond k nn (withXram m s) = withXram m (callCond k nn s)
    unfold callCond
    rw [condHolds_withXram]
    split
    · exact callTo_withXram hoff ..
    · rfl
  case ret => exact congrArg (withCost 16) (returnPc_withXram hoff m)
  case retCond k =>
    show retCond k (withXram m s) = withXram m (retCond k s)
    unfold retCond
    rw [condHolds_withXram]
    split
    · exact congrArg (withCost 20) (returnPc_withXram hoff m)
    · rfl
  case reti => exact congrArg (fun u => withCost 16 (setMasterEnable true u)) (returnPc_withXram hoff m)
  case halt =>
    show haltOp (withXram m s) = withXram m (haltOp s)
    unfold haltOp
    rw [withXram_ime, pendingSet_withXram]
    split <;> rfl
  case prefixCb =>
    show cbEntry (memRead (withXram m s) s.pc) (withXram m { s with pc := s.pc + 1#16 }) = withXram m (prefixOp s)
    rw [memRead_withXram hoff, cbEntry_withXram (s := { s with pc := s.pc + 1#16 }) hoff]
    rfl
  all_goals rfl

/-! ### The parts of a step -/

theorem service_withXram (k : Source) (m : Memory) : service k (withXram m s) = withXram m (service k s) := by
  have hpush := push16_withXram (s := { s with ime := false, imePending := false, haltBug := false }) hoff s.pc m
  show withCost serviceCycles { acknowledge k (push16 s.pc (withXram m { s with
    ime := false, imePending := false, haltBug := false })) with pc := k.serviceAddress } = _
  rw [hpush]
  rfl

theorem fetchOpcode_withXram (m : Memory) : fetchOpcode (withXram m s) = fetchOpcode s := memRead_withXram hoff m _

theorem fetchInstr_withXram (m : Memory) : fetchInstr (withXram m s) = fetchInstr s := by
  unfold fetchInstr fetchOperands
  rw [fetchOpcode_withXram hoff, memRead_withXram hoff, memRead_withXram hoff]
  rfl

theorem instructionEnd_withXram (m : Memory) :
    instructionEnd (withXram m s) = withXram m (instructionEnd s) := by
  have hrun := run_withXram (s := afterFetch (opLength (fetchOpcode s)) s) hoff (fetchInstr s).form m
  unfold instructionEnd
  rw [fetchInstr_withXram hoff, fetchOpcode_withXram hoff, ← finish_withXram, ← promoteIme_withXram, ← hrun]
  rfl

theorem runningEnd_withXram (m : Memory) : runningEnd (withXram m s) = withXram m (runningEnd s) := by
  unfold runningEnd
  rw [withXram_ime, pendingSet_withXram]
  cases if s.ime then highestPending (pendingSet s) else none with
  | some k =>
    dsimp only
    rw [service_withXram hoff, finish_withXram]
  | none =>
    dsimp only
    rw [fetchOpcode_withXram hoff, fetchInstr_withXram hoff, run_withXram hoff, instructionEnd_withXram hoff]
    split <;> rfl

theorem stepEnd_withXram (m : Memory) : stepEnd (withXram m s) = withXram m (stepEnd s) := by
  have hwake : xramOn (wake s) = false := by
    rw [wake_eq]
    exact hoff
  unfold stepEnd
  rw [wake_withXram, withXram_mode]
  split
  · exact runningEnd_withXram hwake m
  · exact finish_withXram m (withCost idleCycles s)

/-- Two machines with a disabled external RAM that differ in its contents alone step alike. -/
theorem step_withXram {t : State} (h : step s = .next t) (m : Memory) :
    step (withXram m s) = .next (withXram m t) := by
  obtain ⟨hm, rfl⟩ := step_next_iff.1 h
  exact step_next_iff.2 ⟨hm, (stepEnd_withXram hoff m).symm⟩

end Off

/-! ## The obligations -/

/-- Settles O60: the state a step ends in commutes with a change of the disabled external RAM; the step of the machine
itself, its contents replaced by themselves, shows that they are kept. -/
theorem disabledRamIsIsolated : Obligations.DisabledRamIsIsolated := by
  refine ⟨fun s t h hs => ?_, fun s t m h hs => step_withXram (xramOn_eq_false h) hs m⟩
  have hsame : step s = .next (withXram s.xram t) := step_withXram (xramOn_eq_false h) hs s.xram
  rw [hs] at hsame
  have ht : t = withXram s.xram t := Host.Outcome.next.inj hsame
  rw [ht]
  rfl

/-- Settles O47: the region of each window, then the branch of the translator that its bounds select. -/
theorem cartridgeWrites : Obligations.CartridgeWrites := by
  intro s x v
  refine ⟨fun hm h => ?_, fun hm h => ?_, fun hm h1 h2 => ?_, fun hm h1 h2 => ?_, fun hm h1 h2 => ?_, fun h1 h2 => ?_⟩
  · rw [memWrite_of_lt h, cartWrite, hm]
  · rw [memWrite_of_lt (by omega), cartWrite, hm]
    simp (disch := omega) only [if_pos]
  · rw [memWrite_of_lt (by omega), cartWrite, hm]
    simp (disch := omega) only [if_pos, if_neg, selectRomBank]
  · rw [memWrite_of_lt (by omega), cartWrite, hm]
    simp (disch := omega) only [if_pos, if_neg, selectRamBank]
  · rw [memWrite_of_lt (by omega), cartWrite, hm]
    simp (disch := omega) only [if_neg]
  · simp only [memWrite, regionOf_eq (r := .xram) ⟨h1, h2⟩, xramOn_eq_true_iff]
    rfl

/-- Settles O48: the frame of a byte write and the reading back of one, with the echo folded onto `WRAM`. -/
theorem readAfterWrite : Obligations.ReadAfterWrite := by
  intro s addr x v hm hp
  split
  · next h => rw [memRead_congr_cellOf h, memRead_memWrite_same hm hp]
  · next h => exact memRead_memWrite_frame (not_mayTouch_of_plainCell hp h) v s

/-- Settles O49: what an instruction does is what its form does, and every form has its frame. -/
theorem memoryFrame : Obligations.MemoryFrame := by
  intro i s t x ht h
  rw [Laws.exec_eq_run] at ht
  rw [← Host.Outcome.next.inj ht]
  exact memRead_run_frame h

/-- Settles O45: the bounds of each clause name the region that owns the address. -/
theorem storageRegions : Obligations.StorageRegions := by
  intro s x
  refine ⟨fun h => ?_, fun h1 h2 => ?_, fun h1 h2 => ?_, fun h1 h2 => ?_, fun h1 h2 => ?_, fun h1 h2 => ?_,
    fun h1 h2 => ?_, fun h1 h2 => ?_, fun h1 h2 => ?_, fun h => ?_⟩
  · simp only [memRead, regionOf_eq (r := .romFixed) h]
  · simp only [memRead, regionOf_eq (r := .romBanked) ⟨h1, h2⟩]
    rfl
  · simp only [memRead, memWrite, regionOf_eq (r := .vram) ⟨h1, h2⟩, implies_true, and_self]
  · simp only [memRead, regionOf_eq (r := .xram) ⟨h1, h2⟩, xramOn_eq_true_iff]
    rfl
  · simp only [memRead, memWrite, regionOf_eq (r := .wram) ⟨h1, h2⟩, implies_true, and_self]
  · simp only [memRead, memWrite, regionOf_eq (r := .echo) ⟨h1, h2⟩, implies_true, and_self]
  · simp only [memRead, memWrite, regionOf_eq (r := .oam) ⟨h1, h2⟩, implies_true, and_self]
  · simp only [memRead, memWrite, regionOf_eq (r := .unused) ⟨h1, h2⟩, implies_true, and_self, sentinel]
  · simp only [memRead, memWrite, regionOf_eq (r := .hram) ⟨h1, h2⟩, implies_true, and_self]
  · simp only [memRead, memWrite, regionOf_eq (r := .ie) h, implies_true, and_self]

/-- Settles O46: the five registers by evaluation of the router, every other address by its region. -/
theorem ioWindowRegisters : Obligations.IoWindowRegisters := by
  intro s
  refine ⟨⟨rfl, fun _ => rfl⟩, ⟨rfl, fun _ => rfl⟩, ⟨rfl, fun _ => rfl⟩, ⟨?_, fun _ => rfl⟩, ⟨?_, fun _ => rfl⟩,
    fun x h1 h2 h3 => ?_⟩
  · exact (by decide : ∀ t : BitVec 3, (0xF8#8 ||| t.zeroExtend 8).toNat = 0xF8 + t.toNat) s.tac
  · exact (by decide : ∀ t : BitVec 5, (0xE0#8 ||| t.zeroExtend 8).toNat = 0xE0 + t.toNat) s.irq
  · simp only [List.mem_cons, List.not_mem_nil, or_false, not_or] at h3
    simp only [memRead, memWrite, regionOf_eq (r := .io) ⟨h1, h2, h3⟩, implies_true, and_self]

end Sys2Proof.Machine
end

section
/-! PROOFS. The decoder and the encoder: what `decode` answers, the two directions of the round trip, the two pages by
their bit fields, the undefined bytes, and the statements settled by them. -/

namespace Sys2Proof.Machine

open Sys2Proof Sys2Proof.Claims

/-! ## What `decode` answers -/

/-- The number of bytes that the first byte of a list asks for (30_encoding R160). -/
def firstLength (bytes : List Byte) : Nat := opLength (bytes.headD 0x00#8)

/-- The instruction that the first three bytes of a list stand for; a byte that is not there counts as 0. -/
def firstInstr (bytes : List Byte) : Instr :=
  decodeOp (bytes.getD 0 0x00#8) (bytes.getD 1 0x00#8) (bytes.getD 2 0x00#8)

theorem opLength_pos (op : Byte) : 0 < opLength op := by
  unfold opLength
  split_ifs <;> decide

theorem opLength_le_three (op : Byte) : opLength op ≤ 3 := by
  unfold opLength
  split_ifs <;> decide

/-- Enough bytes decode: to the instruction they stand for, leaving what stands after its length. -/
theorem decode_of_firstLength_le {bytes : List Byte} (h : firstLength bytes ≤ bytes.length) :
    decode bytes = .ok (firstInstr bytes, bytes.drop (firstLength bytes)) := by
  cases bytes with
  | nil => exact absurd h (by decide)
  | cons b0 tail =>
    have hlen : opLength b0 ≤ tail.length + 1 := h
    have hcb : ¬(b0 = 0xCB#8 ∧ tail = []) := by
      rintro ⟨rfl, rfl⟩
      exact absurd hlen (by decide)
    have hdrop : (b0 :: tail).drop (opLength b0) = tail.drop (opLength b0 - 1) := by
      obtain ⟨n, hn⟩ := Nat.exists_eq_add_one.2 (opLength_pos b0)
      rw [hn, List.drop_succ_cons, Nat.add_sub_cancel]
    rw [decode, if_neg hcb, if_neg (Nat.not_lt.2 hlen), firstLength, List.headD_cons, hdrop]
    rfl

/-- Too few bytes are rejected, but for the byte 0xCB alone (log entry 6). -/
theorem decode_error_of_lt {bytes : List Byte} (h : bytes.length < firstLength bytes) (hne : bytes ≠ [0xCB#8]) :
    ∃ e, decode bytes = .error e := by
  cases bytes with
  | nil => exact ⟨_, rfl⟩
  | cons b0 tail =>
    have hlen : tail.length + 1 < opLength b0 := h
    have hcb : ¬(b0 = 0xCB#8 ∧ tail = []) := by
      rintro ⟨rfl, rfl⟩
      exact hne rfl
    rw [decode, if_neg hcb, if_pos hlen]
    exact ⟨_, rfl⟩

/-- The byte 0xCB with a byte after it decodes to the CB-page entry of that byte (30_encoding R180). -/
theorem decode_cb (op2 : Byte) (rest : List Byte) : decode (0xCB#8 :: op2 :: rest) = .ok (cbPage op2, rest) := by
  have hlen : firstLength (0xCB#8 :: op2 :: rest) = 2 := rfl
  have hinstr : firstInstr (0xCB#8 :: op2 :: rest) = cbPage op2 := show decodeOp 0xCB#8 op2 _ = cbPage op2 from rfl
  rw [decode_of_firstLength_le (hlen.trans_le (Nat.le_add_left 2 rest.length)), hlen, hinstr]
  rfl

/-- All that a byte list can decode to. -/
theorem decode_ok_cases {bytes rest : List Byte} {i : Instr} (h : decode bytes = .ok (i, rest)) :
    (bytes = [0xCB#8] ∧ i = .prefixCb ∧ rest = []) ∨
    (firstLength bytes ≤ bytes.length ∧ i = firstInstr bytes ∧ rest = bytes.drop (firstLength bytes)) := by
  rcases Nat.lt_or_ge bytes.length (firstLength bytes) with hlt | hle
  · by_cases hcb : bytes = [0xCB#8]
    · subst hcb
      cases h
      exact .inl ⟨rfl, rfl, rfl⟩
    · obtain ⟨e, he⟩ := decode_error_of_lt hlt hcb
      rw [he] at h
      cases h
  · rw [decode_of_firstLength_le hle] at h
    cases h
    exact .inr ⟨hle, rfl, rfl⟩

/-! ## The encoding of a decoded instruction -/

theorem encode_cbPage (op2 : Byte) : encode (cbPage op2) = [0xCB#8, op2] := by
  revert op2
  refine Laws.forall_byte fun n hn => ?_
  interval_cases n <;> rfl

/-- The operand bytes are those of one word, so that the matrix reads the word itself and not the pair of its bytes. -/
theorem encode_decodeOp_word (b0 : Byte) (w : Word) :
    encode (decodeOp b0 (loByte w) (hiByte w)) = [b0, loByte w, hiByte w].take (opLength b0) := by
  unfold decodeOp
  rw [pairOf_hi_lo]
  revert b0
  refine Laws.forall_byte fun n hn => ?_
  rcases Nat.lt_trichotomy n 0xCB with hlt | rfl | hgt
  · interval_cases n <;> rfl
  · exact encode_cbPage _
  · interval_cases n <;> rfl

/-- A decoded instruction is encoded by the bytes it was decoded from, as many of them as its length. -/
theorem encode_decodeOp (b0 b1 b2 : Byte) : encode (decodeOp b0 b1 b2) = [b0, b1, b2].take (opLength b0) := by
  simpa only [loByte_pairOf, hiByte_pairOf] using encode_decodeOp_word b0 (pairOf b2 b1)

/-- The three bytes that `firstInstr` reads. -/
theorem firstThree_eq_take (bytes : List Byte) :
    [bytes.getD 0 0x00#8, bytes.getD 1 0x00#8, bytes.getD 2 0x00#8] =
      (bytes ++ List.replicate 3 0x00#8).take 3 :=
  match bytes with
  | [] | [_] | [_, _] | _ :: _ :: _ :: _ => rfl

theorem encode_firstInstr {bytes : List Byte} (h : firstLength bytes ≤ bytes.length) :
    encode (firstInstr bytes) = bytes.take (firstLength bytes) := by
  have hop : opLength (bytes.getD 0 0x00#8) = firstLength bytes := by cases bytes <;> rfl
  have hle : firstLength bytes ≤ 3 := opLength_le_three _
  rw [firstInstr, encode_decodeOp, firstThree_eq_take, List.take_take, hop, Nat.min_eq_left hle,
    List.take_append_of_le_length h]

/-! ## The decoding of an encoding -/

/-- The encoding's length is the one its first byte determines (30_encoding R160). -/
theorem encode_length_spec (i : Instr) : Laws.Encoding.Statement i := by
  cases i
  case prefixCb => exact Laws.Encoding.prefixCb
  all_goals exact Laws.Encoding.statement_of rfl rfl

theorem firstLength_encode_append {i : Instr} (h : i ≠ .prefixCb) (rest : List Byte) :
    firstLength (encode i ++ rest) = (encode i).length := by
  obtain ⟨hpos, hlen⟩ := encode_length_spec i
  obtain ⟨b0, tail, he⟩ := List.exists_cons_of_length_pos hpos
  rw [hlen h, he]
  rfl

/-- Three bytes that begin with the encoding of an instruction stand for it. -/
theorem decodeOp_of_encode_prefix {i : Instr} (h : i ≠ .prefixCb) {b0 b1 b2 : Byte} (hp : encode i <+: [b0, b1, b2]) :
    decodeOp b0 b1 b2 = i := by
  obtain ⟨more, hbytes⟩ := hp
  cases i
  case prefixCb => exact absurd rfl h
  case ldBcNn nn | ldDeNn nn | ldHlNn nn | ldSpNn nn | ldMemNnSp nn | ldMemNnA nn | ldAMemNn nn | jpNn nn | jpNzNn nn
      | jpZNn nn | jpNcNn nn | jpCNn nn | callNn nn | callNzNn nn | callZNn nn | callNcNn nn | callCNn nn =>
    cases hbytes
    conv_rhs => rw [← pairOf_hi_lo nn]
    rfl
  all_goals
    cases hbytes
    rfl

theorem firstInstr_encode_append {i : Instr} (h : i ≠ .prefixCb) (rest : List Byte) :
    firstInstr (encode i ++ rest) = i := by
  have hlen : (encode i).length ≤ 3 := firstLength_encode_append h rest ▸ opLength_le_three _
  refine decodeOp_of_encode_prefix h ?_
  rw [firstThree_eq_take, List.append_assoc, List.prefix_take_iff]
  exact ⟨List.prefix_append _ _, hlen⟩

/-! ## The CB page by its bit fields (30_encoding R180) -/

theorem form_cbPage (op2 : Byte) : (cbPage op2).form = cbForm op2 := by
  revert op2
  refine Laws.forall_byte fun n hn => ?_
  interval_cases n <;> rfl

theorem cbWriteCost_opndAt (k : Nat) : cbWriteCost (opndAt k) = if k = 6 then 16 else 8 := by
  unfold opndAt
  split <;> rfl

theorem cbReadCost_opndAt (k : Nat) : cbReadCost (opndAt k) = if k = 6 then 12 else 8 := by
  unfold opndAt
  split <;> rfl

/-- The cost of a CB-page form (44_rotate_shift_bit R314). -/
theorem run_cbForm_cycles (op2 : Byte) (s : State) : (Laws.Form.run (cbForm op2) s).cycles =
    if fieldX op2 = 1 then cbReadCost (opndAt (fieldZ op2)) else cbWriteCost (opndAt (fieldZ op2)) := by
  unfold cbForm
  split
  · next hx => rw [hx]; rfl
  · next hx => rw [hx]; rfl
  · next hx => rw [hx]; rfl
  · next _ _ hx _ => rw [if_neg hx]; rfl

/-! ## The undefined bytes (30_encoding R182) -/

theorem isUndefined_iff (op : Byte) : isUndefined op = true ↔ op ∈ undefinedBytes := decide_eq_true_iff

theorem mem_undefinedBytes_of_form {i : Instr} {op : Byte} (h : i.form = .illegal op) : op ∈ undefinedBytes := by
  cases i
  case illegalD3 | illegalDB | illegalDD | illegalE3 | illegalE4 | illegalEB | illegalEC | illegalED | illegalF4
      | illegalFC | illegalFD =>
    cases h
    decide
  all_goals cases h

/-- Only its own byte decodes to an undefined form. -/
theorem eq_of_form_decodeOp_illegal {b0 b1 b2 op : Byte} (h : (decodeOp b0 b1 b2).form = .illegal op) : op = b0 := by
  have hhead := head_encode_decodeOp b0 b1 b2
  rw [Laws.encode_eq_bytes, h] at hhead
  exact Option.some.inj hhead

/-! ## The obligations -/

/-- Settles O2: the encoding's own length is the one that is read, and the bytes read begin with the encoding. -/
theorem decodeInvertsEncode : Obligations.DecodeInvertsEncode := by
  intro i rest hwf
  have hi : i ≠ .prefixCb := of_decide_eq_true hwf
  have hlen := firstLength_encode_append hi rest
  rw [decode_of_firstLength_le (by rw [hlen, List.length_append]; exact Nat.le_add_right _ _),
    firstInstr_encode_append hi, hlen, List.drop_left]

/-- Settles O3: what decodes is the byte 0xCB alone, or the instruction whose encoding the first bytes are. -/
theorem encodeInvertsDecode : Obligations.EncodeInvertsDecode := by
  intro bytes rest i h
  rcases decode_ok_cases h with ⟨rfl, rfl, rfl⟩ | ⟨hlen, rfl, rfl⟩
  · rfl
  · rw [encode_firstInstr hlen, List.take_append_drop]

/-- Settles O4: a list that is long enough, or is the byte 0xCB alone, decodes; every other is rejected. -/
theorem decodeRejectsOnlyTruncation : Obligations.DecodeRejectsOnlyTruncation := by
  intro bytes
  refine ⟨fun ⟨e, he⟩ => ⟨?_, ?_⟩, fun ⟨hlt, hne⟩ => decode_error_of_lt hlt hne⟩
  · by_contra hlen
    rw [decode_of_firstLength_le (Nat.not_lt.1 hlen)] at he
    cases he
  · rintro rfl
    cases he

/-- Settles O5: the matrix and the bit fields are read at each of the 255 bytes, on both sides of 0xCB. -/
theorem basePageByFields : Obligations.BasePageByFields := by
  intro b0 b1 b2
  revert b0
  refine Laws.forall_byte fun n hn hcb => ?_
  rcases Nat.lt_trichotomy n 0xCB with hlt | rfl | hgt
  · interval_cases n <;> rfl
  · exact absurd rfl hcb
  · interval_cases n <;> rfl

/-- Settles O6: the list decodes to the entry of its second byte, whose form gives the effect and so the cost. -/
theorem cbPageByFields : Obligations.CbPageByFields := by
  intro op2 rest s
  refine ⟨decode_cb op2 rest, form_cbPage op2, _, Laws.exec_eq_run _ s, ?_⟩
  rw [form_cbPage, run_cbForm_cycles, cbReadCost_opndAt, cbWriteCost_opndAt]
  split_ifs <;> rfl

/-- Settles O7: an undefined form is that of the opcode byte, and its effect is the fault. -/
theorem undefinedBytesAreEleven : Obligations.UndefinedBytesAreEleven := by
  refine ⟨rfl, fun b0 b1 b2 => ⟨fun ⟨op, h⟩ => ?_, fun h => ?_⟩, fun b0 b1 b2 h s => ?_⟩
  · exact eq_of_form_decodeOp_illegal h ▸ mem_undefinedBytes_of_form h
  · exact ⟨b0, form_decodeOp_of_isUndefined ((isUndefined_iff b0).2 h) b1 b2⟩
  · rw [Laws.exec_eq_run, form_decodeOp_of_isUndefined ((isUndefined_iff b0).2 h)]
    rfl

/-- Settles O1: the decoder, run on each word. -/
theorem sampleWordsDecode : Obligations.SampleWordsDecode :=
  ⟨rfl, rfl, rfl, rfl, rfl, rfl, rfl, rfl, rfl, rfl, rfl, rfl, rfl, rfl, rfl, rfl, rfl, rfl⟩

end Sys2Proof.Machine
end

section
/-! PROOFS. The 8-bit loads: an instruction's encoding and effect read off its form, the high page and the moves of `HL`
in plain arithmetic, and the statements settled by them. -/

namespace Sys2Proof.Machine

open Sys2Proof Sys2Proof.Claims

/-! ## From the form to the encoding and the effect -/

/-- An instruction of a form is encoded and completes as the form says. -/
theorem encode_exec_of_form {i : Instr} {f : Form} (h : i.form = f) (s : State) :
    encode i = Laws.Form.bytes f ∧ exec i s = .next (Laws.Form.run f s) :=
  h ▸ ⟨Laws.encode_eq_bytes i, Laws.exec_eq_run i s⟩

/-! ## Registers and addresses -/

theorem setReg_getReg (r : Reg8) (s : State) : setReg r (getReg r s) s = s := by cases r <;> rfl

/-- The high page is the addresses whose high byte is 0xFF (30_encoding R177). -/
theorem highPage_eq_append (n : Byte) : highPage n = 0xFF#8 ++ n := by
  refine BitVec.eq_of_toNat_eq (Eq.trans ?_ (pairOf_toNat 0xFF#8 n).symm)
  have hn := n.isLt
  rw [highPage, BitVec.toNat_add, BitVec.toNat_setWidth, BitVec.toNat_ofNat, BitVec.toNat_ofNat]
  omega

/-- `HL` moved by `k` modulo 2^16. -/
theorem getHl_add_ofNat (s : State) (k : Nat) :
    getHl s + BitVec.ofNat 16 k = BitVec.ofNat 16 ((s.h ++ s.l).toNat + k) := by
  rw [BitVec.ofNat_add, BitVec.ofNat_toNat, BitVec.setWidth_eq]
  rfl

/-! ## The obligations -/

/-- Settles O8: both forms as they run; a register that takes its own value leaves the state as it was. -/
theorem loadRegister : Obligations.LoadRegister := by
  refine ⟨fun i dst src s h => ?_, fun i dst n s h => encode_exec_of_form h s⟩
  obtain ⟨henc, hexec⟩ := encode_exec_of_form h s
  refine ⟨henc, hexec, ?_⟩
  rintro rfl
  rw [hexec, Laws.Form.run, ldRegReg, setReg_getReg]
  rfl

/-- Settles O9: the three forms as they run; the byte is read at `HL` before the register is written. -/
theorem loadAndStoreAtHl : Obligations.LoadAndStoreAtHl :=
  ⟨fun _ _ s h => encode_exec_of_form h s, fun _ _ s h => encode_exec_of_form h s,
    fun _ _ s h => encode_exec_of_form h s⟩

/-- Settles O10: each instruction has its own form, which loads or stores `A` at the address. -/
theorem accumulatorIndirect : Obligations.AccumulatorIndirect := fun s =>
  ⟨encode_exec_of_form (f := .ldABc) rfl s, encode_exec_of_form (f := .ldADe) rfl s,
    fun nn => encode_exec_of_form (f := .ldANn nn) rfl s, encode_exec_of_form (f := .ldBcA) rfl s,
    encode_exec_of_form (f := .ldDeA) rfl s, fun nn => encode_exec_of_form (f := .ldNnA nn) rfl s⟩

/-- Settles O11: the forms load and store at the high-page address, which is 0xFF above the byte. -/
theorem highPageLoads : Obligations.HighPageLoads := by
  intro s
  simp only [← highPage_eq_append]
  exact ⟨encode_exec_of_form (f := .ldhAC) rfl s, encode_exec_of_form (f := .ldhCA) rfl s,
    fun n => encode_exec_of_form (f := .ldhAN n) rfl s, fun n => encode_exec_of_form (f := .ldhNA n) rfl s⟩

/-- Settles O12: the forms move `HL` by -1, which is 65535 modulo 2^16, or by 1, after the access at the old `HL`. -/
theorem loadAndMoveHl : Obligations.LoadAndMoveHl := by
  intro s down up
  have hdown : getHl s + -1#16 = down := getHl_add_ofNat s 65535
  have hup : getHl s + 1#16 = up := getHl_add_ofNat s 1
  rw [← hdown, ← hup]
  exact ⟨encode_exec_of_form (f := .ldADec) rfl s, encode_exec_of_form (f := .ldDecA) rfl s,
    encode_exec_of_form (f := .ldAInc) rfl s, encode_exec_of_form (f := .ldIncA) rfl s⟩

end Sys2Proof.Machine
end

section
/-! PROOFS. The 16-bit loads and the stack: the signed displacement and the flag byte as numbers, `Push16` and `Pop16`
with the move of `SP` written last, and the statements settled by them. -/

namespace Sys2Proof.Machine

open Sys2Proof Sys2Proof.Claims

/-! ## The displacement and the flag byte as numbers -/

/-- A signed displacement is added modulo 2^16 (30_encoding R175). -/
theorem add_sext16_toNat (w : Word) (e : Byte) :
    ((w + sext16 e).toNat : Int) = ((w.toNat : Int) + e.toInt) % 65536 := by
  have hsum : w + sext16 e = BitVec.ofInt 16 ((w.toNat : Int) + e.toInt) := by
    rw [BitVec.ofInt_add, BitVec.ofInt_natCast, BitVec.ofNat_toNat, BitVec.setWidth_eq]
    rfl
  rw [hsum, BitVec.toNat_ofInt]
  exact Int.toNat_of_nonneg (Int.emod_nonneg _ (by decide))

theorem flagsAre_packF (z n h c : Bool) : flagsAre (packF z n h c) z n h c := by
  cases z <;> cases n <;> cases h <;> cases c <;> rfl

/-- Clearing the four low bits drops the remainder by 16. -/
theorem and_F0_eq_ofNat (v : Byte) : v &&& 0xF0#8 = BitVec.ofNat 8 (v.toNat / 16 * 16) := by
  refine BitVec.eq_of_getLsbD_eq fun i hi => ?_
  have hmask : (0xF0#8).getLsbD i = decide (4 ≤ i) := by interval_cases i <;> rfl
  rw [BitVec.getLsbD_and, hmask, BitVec.getLsbD_ofNat, Nat.testBit_mul_two_pow _ i 4]
  by_cases h4 : 4 ≤ i
  · have hdiv : (v.toNat / 16).testBit (i - 4) = v.getLsbD i :=
      (Nat.testBit_div_two_pow (n := 4) ..).trans (by rw [Nat.sub_add_cancel h4, BitVec.testBit_toNat])
    simp [h4, hi, hdiv]
  · simp [h4]

/-! ## `Push16` and `Pop16` -/

theorem cartWrite_setSp (addr : Word) (v : Byte) (w : Word) (s : State) :
    cartWrite addr v { s with sp := w } = { cartWrite addr v s with sp := w } := by
  cases hm : s.cart.mapper with
  | noMapper => simp only [cartWrite, hm]
  | banked =>
    simp only [cartWrite, hm]
    split_ifs <;> rfl

/-- A byte write neither reads nor writes `SP` (20_memory R83). -/
theorem memWrite_setSp (addr : Word) (v : Byte) (w : Word) (s : State) :
    memWrite addr v { s with sp := w } = { memWrite addr v s with sp := w } := by
  cases hr : regionOf addr
  case romFixed | romBanked =>
    simp only [memWrite, hr]
    exact cartWrite_setSp addr v w s
  case xram =>
    by_cases hon : xramOn s = true
    · rw [memWrite_xram_on hr hon, memWrite_xram_on (s := { s with sp := w }) hr hon]
      rfl
    · rw [memWrite_xram_off hr (eq_false_of_ne_true hon),
        memWrite_xram_off (s := { s with sp := w }) hr (eq_false_of_ne_true hon)]
  all_goals simp only [memWrite, hr]

theorem pushByte_eq_memWrite (v : Byte) (s : State) :
    pushByte v s = { memWrite (s.sp - 1#16) v s with sp := s.sp - 1#16 } :=
  memWrite_setSp ..

/-- `Push16` is the two writes, the high byte first, with `SP` two lower (00_scope R19). -/
theorem push16_eq_memWrite (v : Word) (s : State) : push16 v s =
    { memWrite (s.sp - 2#16) (loByte v) (memWrite (s.sp - 1#16) (hiByte v) s) with sp := s.sp - 2#16 } := by
  have hsp : s.sp - 1#16 - 1#16 = s.sp - 2#16 := BitVec.sub_sub ..
  rw [push16_eq, pushByte_eq_memWrite, pushByte_eq_memWrite, memWrite_setSp, hsp]

theorem popState_eq (s : State) : popState s = { s with sp := s.sp + 2#16 } := by
  rw [popState, BitVec.add_assoc]
  rfl

/-! ## The obligations -/

/-- Settles O14: both forms take the sum and the flags of `spPlus`, which is the signed sum modulo 2^16. -/
theorem stackPointerPlusDisplacement : Obligations.StackPointerPlusDisplacement := fun e s =>
  have ⟨hencLd, hexecLd⟩ := encode_exec_of_form (i := .ldHlSpE e) (f := .ldHlSp e) rfl s
  have ⟨hencAdd, hexecAdd⟩ := encode_exec_of_form (i := .addSpE e) (f := .addSp e) rfl s
  ⟨(spPlus s.sp e).1, (spPlus s.sp e).2, add_sext16_toNat s.sp e, flagsAre_packF .., hencLd, hexecLd, hencAdd,
    hexecAdd⟩

/-- Settles O15: the two writes of `Push16`, with the high and the low byte of each pair read off. -/
theorem pushStoresHighThenLow : Obligations.PushStoresHighThenLow := by
  intro i p s h
  obtain ⟨henc, hexec⟩ := encode_exec_of_form h s
  refine ⟨henc, hexec.trans ?_⟩
  rw [Laws.Form.run, pushPair, push16_eq_memWrite]
  cases p <;> simp only [getStackPair, getBc, getDe, getHl, getAf, hiByte_pairOf, loByte_pairOf] <;> rfl

/-- Settles O16: the popped value's high and low byte are the two bytes read, and `F` loses its four low bits. -/
theorem popReadsLowThenHigh : Obligations.PopReadsLowThenHigh := by
  intro i p s h lo hi
  obtain ⟨henc, hexec⟩ := encode_exec_of_form h s
  refine ⟨henc, hexec.trans ?_⟩
  have hhi : hiByte (popValue s) = hi := hiByte_pairOf ..
  have hlo : loByte (popValue s) = lo := loByte_pairOf ..
  rw [Laws.Form.run, popPair, popState_eq, ← and_F0_eq_ofNat]
  cases p <;> simp only [setStackPair, setBc, setDe, setHl, hhi, hlo] <;> rfl

/-- Settles O13: the forms as they run, pair by pair; `LD (nn),SP` is the two writes of `MemWrite(nn, 2, SP)`. -/
theorem loadAndStorePair : Obligations.LoadAndStorePair := by
  refine ⟨fun i p nn s h => ?_, fun s => encode_exec_of_form (f := .ldSpHl) rfl s,
    fun nn s => encode_exec_of_form (f := .ldNnSp nn) rfl s⟩
  obtain ⟨henc, hexec⟩ := encode_exec_of_form h s
  refine ⟨henc, hexec.trans ?_⟩
  cases p <;> rfl

end Sys2Proof.Machine
end

section
/-! PROOFS. The 8-bit arithmetic and logic: the result and the flags of each operation as numbers (`ResultIs`), the
effect of an accumulator operation whatever its operand's form, and the statements settled by them. -/

namespace Sys2Proof.Machine

open Sys2Proof Sys2Proof.Claims

/-! ## A result and its flags as numbers -/

/-- The result and the new `F` of an operation: the result is the number `k`, `fZ` says that it is zero, and `fN`, `fH`,
`fC` are the given ones. -/
structure ResultIs (r : Byte × Byte) (k : Nat) (n h c : Bool) : Prop where
  toNat_eq : r.1.toNat = k
  flags : flagsAre r.2 (decide (k = 0)) n h c

/-- The result as the byte of its number. -/
theorem ResultIs.eq_ofNat {r : Byte × Byte} {k : Nat} {n h c : Bool} (hr : ResultIs r k n h c) :
    r.1 = BitVec.ofNat 8 k :=
  (BitVec.toNat_eq_nat.mp hr.toNat_eq).2

/-- A result with the flag byte that is packed from it. -/
theorem resultIs_packF {res : Byte} {k : Nat} (hres : res.toNat = k) (n h c : Bool) :
    ResultIs (res, packF (decide (res = 0#8)) n h c) k n h c := by
  have hzero : decide (res = 0#8) = decide (k = 0) := decide_eq_decide.mpr (hres ▸ BitVec.toNat_inj.symm)
  exact ⟨hres, hzero ▸ flagsAre_packF ..⟩

theorem flagN_eq (f : Byte) : flagN f = nOf f := (Nat.testBit_eq_decide_div_mod_eq (i := 6)).symm

theorem flagH_eq (f : Byte) : flagH f = hOf f := (Nat.testBit_eq_decide_div_mod_eq (i := 5)).symm

theorem bitByte_toNat (b : Bool) : (bitByte b).toNat = b.toNat := by cases b <;> rfl

/-! ## The operations of 42_alu8 -/

/-- The sum modulo 2^8 and its carries (42_alu8 R261, R262). -/
theorem addBytes_resultIs (a v : Byte) (c : Bool) :
    ResultIs (addBytes a v c) ((a.toNat + v.toNat + c.toNat) % 256) false
      (decide (15 < a.toNat % 16 + v.toNat % 16 + c.toNat)) (decide (255 < a.toNat + v.toNat + c.toNat)) := by
  refine resultIs_packF ?_ ..
  rw [BitVec.toNat_add, BitVec.toNat_add, bitByte_toNat, Nat.mod_add_mod]

/-- The difference modulo 2^8 and its borrows (42_alu8 R263, R264). -/
theorem subBytes_resultIs (a v : Byte) (c : Bool) :
    ResultIs (subBytes a v c) ((a.toNat + 512 - v.toNat - c.toNat) % 256) true
      (decide (a.toNat % 16 < v.toNat % 16 + c.toNat)) (decide (a.toNat < v.toNat + c.toNat)) := by
  refine resultIs_packF ?_ ..
  have hv := v.isLt
  have hc := c.toNat_le
  rw [BitVec.toNat_sub, BitVec.toNat_sub, bitByte_toNat]
  omega

/-- One more modulo 2^8 (42_alu8 R269). -/
theorem incByte_resultIs (old f : Byte) :
    ResultIs (incByte old f) ((old.toNat + 1) % 256) false (decide (old.toNat % 16 = 15)) (flagC f) := by
  rw [flagC_eq]
  exact resultIs_packF (BitVec.toNat_add ..) ..

/-- One less modulo 2^8 (42_alu8 R271). -/
theorem decByte_resultIs (old f : Byte) :
    ResultIs (decByte old f) ((old.toNat + 255) % 256) true (decide (old.toNat % 16 = 0)) (flagC f) := by
  rw [flagC_eq]
  refine resultIs_packF ?_ ..
  rw [BitVec.toNat_sub, Nat.add_comm]
  rfl

/-- The two corrections of `DAA` have no bit in common, so that together they are their sum. -/
theorem daaCorrection_toNat (low high : Bool) :
    ((if low then 0x06#8 else 0x00#8) ||| (if high then 0x60#8 else 0x00#8)).toNat =
      0x06 * low.toNat + 0x60 * high.toNat := by
  cases low <;> cases high <;> rfl

/-- `DAA` after a subtraction (42_alu8 R273). -/
theorem daaByte_resultIs_sub (a : Byte) {f : Byte} (hn : nOf f = true) :
    ResultIs (daaByte a f) ((a.toNat + 256 - (0x06 * (hOf f).toNat + 0x60 * (cOf f).toNat)) % 256) true false
      (cOf f) := by
  rw [daaByte, if_pos hn]
  refine resultIs_packF ?_ ..
  have hh := (hOf f).toNat_le
  have hc := (cOf f).toNat_le
  rw [BitVec.toNat_sub, daaCorrection_toNat]
  omega

/-- `DAA` after an addition (42_alu8 R273). -/
theorem daaByte_resultIs_add (a : Byte) {f : Byte} (hn : nOf f = false) :
    ResultIs (daaByte a f)
      ((a.toNat + (0x06 * (hOf f || decide (9 < a.toNat % 16)).toNat +
        0x60 * (cOf f || decide (0x99 < a.toNat)).toNat)) % 256) false false
      (cOf f || decide (0x99 < a.toNat)) := by
  rw [daaByte, if_neg (ne_true_of_eq_false hn)]
  refine resultIs_packF ?_ ..
  rw [BitVec.toNat_add, daaCorrection_toNat]
  rfl

/-! ## The accumulator operations -/

theorem aluCost_eq (src : Src) : aluCost src = accCost src := by cases src <;> rfl

theorem incCost_eq (o : Opnd) : incCost o = byOpnd o 4 12 := by cases o <;> rfl

/-- An accumulator operation writes `A`, `F` and the cost alone (42_alu8 R260). -/
theorem exec_alu {i : Instr} {op : AluOp} {src : Src} (h : i.form = .alu op src) (s : State) :
    exec i s = .next { s with
      a := (aluResult op s.a (getSrc src s) s.f).1
      f := (aluResult op s.a (getSrc src s) s.f).2
      cycles := accCost src } := by
  rw [← aluCost_eq]
  exact (encode_exec_of_form h s).2

/-- The effect of an accumulator operation whose result and flags are known. -/
theorem exec_alu_of_resultIs {i : Instr} {op : AluOp} {src : Src} {s : State} {k : Nat} {n hf c : Bool}
    (h : i.form = .alu op src) (hr : ResultIs (aluResult op s.a (getSrc src s) s.f) k n hf c) :
    ∃ f', flagsAre f' (decide (k = 0)) n hf c ∧
      exec i s = .next { s with a := BitVec.ofNat 8 k, f := f', cycles := accCost src } :=
  ⟨_, hr.flags, hr.eq_ofNat ▸ exec_alu h s⟩

/-- The new `A` and `F` of the immediate form are the operation on the immediate: the value other forms are held to. -/
theorem aluResult_eq_of_exec_imm {j : Instr} {op : AluOp} {n : Byte} {s u : State} (hj : j.form = .alu op (.imm n))
    (hu : exec j s = .next u) : (aluResult op s.a n s.f).1 = u.a ∧ (aluResult op s.a n s.f).2 = u.f := by
  obtain rfl := Host.Outcome.next.inj ((exec_alu hj s).symm.trans hu)
  exact ⟨rfl, rfl⟩

/-! ## The obligations -/

/-- Settles O18: ADD is the sum without a carry, ADC the sum with the incoming one. -/
theorem addAndAddWithCarry : Obligations.AddAndAddWithCarry := by
  rintro i op src s (rfl | rfl) h v c sum
  · exact exec_alu_of_resultIs h (addBytes_resultIs s.a (getSrc src s) false)
  · have hc : c = (cOf s.f).toNat := congrArg Bool.toNat (flagC_eq s.f)
    have hr := addBytes_resultIs s.a (getSrc src s) (cOf s.f)
    rw [← hc] at hr
    exact exec_alu_of_resultIs h hr

/-- Settles O19: SUB and CP take the difference without a borrow, SBC with the incoming one; CP keeps `A`. -/
theorem subtractAndCompare : Obligations.SubtractAndCompare := by
  rintro i op src s (rfl | rfl | rfl) h v c res
  · exact exec_alu_of_resultIs h (subBytes_resultIs s.a (getSrc src s) false)
  · have hc : c = (cOf s.f).toNat := congrArg Bool.toNat (flagC_eq s.f)
    have hr := subBytes_resultIs s.a (getSrc src s) (cOf s.f)
    rw [← hc] at hr
    exact exec_alu_of_resultIs h hr
  · exact ⟨_, (subBytes_resultIs s.a (getSrc src s) false).flags, exec_alu h s⟩

/-- Settles O20: the bits of the bitwise result, and the flags packed from it. -/
theorem logicOperations : Obligations.LogicOperations := by
  rintro i op src s hop h
  refine ⟨_, _, ?_, ?_, exec_alu h s⟩
  · intro j _
    rcases hop with rfl | rfl | rfl
    · exact BitVec.getLsbD_and
    · exact BitVec.getLsbD_xor
    · exact BitVec.getLsbD_or
  · rcases hop with rfl | rfl | rfl <;> exact (resultIs_packF rfl ..).flags

/-- Settles O21: both forms as they run, with the results of `incByte` and `decByte` as numbers. -/
theorem incrementAndDecrementByte : Obligations.IncrementAndDecrementByte := by
  intro i o s old
  rw [← incCost_eq]
  have hinc := incByte_resultIs (getOpnd o s) s.f
  have hdec := decByte_resultIs (getOpnd o s) s.f
  refine ⟨fun h => ?_, fun h => ?_⟩ <;> obtain ⟨henc, hexec⟩ := encode_exec_of_form h s
  · exact ⟨_, hinc.flags, henc, hinc.eq_ofNat ▸ hexec⟩
  · exact ⟨_, hdec.flags, henc, hdec.eq_ofNat ▸ hexec⟩

/-- Settles O22: by `fN`, the correction that is subtracted or the one that is added. -/
theorem decimalAdjust : Obligations.DecimalAdjust := by
  intro s a low high adj res
  obtain ⟨henc, hexec⟩ := encode_exec_of_form (i := .daa) (f := .daa) rfl s
  have hr : ResultIs (daaByte s.a s.f) res (flagN s.f) false high := by
    simp only [res, adj, low, high, a, flagN_eq, flagH_eq, flagC_eq]
    cases hn : nOf s.f
    · simpa using daaByte_resultIs_add s.a hn
    · simpa using daaByte_resultIs_sub s.a hn
  exact ⟨_, hr.flags, henc, hr.eq_ofNat ▸ hexec⟩

/-- Settles O23: the forms as they run; the complement of a byte is its difference from 255. -/
theorem complementAndCarryFlags : Obligations.ComplementAndCarryFlags := by
  intro s
  have hcpl : ~~~s.a = BitVec.ofNat 8 (255 - s.a.toNat) := (BitVec.toNat_eq_nat.mp BitVec.toNat_not).2
  rw [flagZ_eq, flagC_eq, ← hcpl]
  exact ⟨⟨_, flagsAre_packF .., encode_exec_of_form (i := .cpl) (f := .cpl) rfl s⟩,
    ⟨_, flagsAre_packF .., encode_exec_of_form (i := .scf) (f := .scf) rfl s⟩,
    ⟨_, flagsAre_packF .., encode_exec_of_form (i := .ccf) (f := .ccf) rfl s⟩⟩

/-- Settles O17: the effect depends on the operand's form by the operand's value and the cost alone. -/
theorem accumulatorForms : Obligations.AccumulatorForms :=
  ⟨fun _ _ _ s h => ⟨(encode_exec_of_form h s).1, _, exec_alu h s, rfl, fun _ _ => aluResult_eq_of_exec_imm⟩,
    fun _ _ s h => ⟨(encode_exec_of_form h s).1, _, exec_alu h s, rfl, fun _ _ => aluResult_eq_of_exec_imm⟩,
    fun _ _ _ s h => ⟨(encode_exec_of_form h s).1, _, exec_alu h s, rfl⟩⟩

end Sys2Proof.Machine
end

section
/-! PROOFS. The 16-bit arithmetic: a sum of words as a number modulo 2^16, and the statements settled by it. -/

namespace Sys2Proof.Machine

open Sys2Proof Sys2Proof.Claims

/-! ## Sums of words as numbers -/

theorem word_add_eq_ofNat (x y : Word) : x + y = BitVec.ofNat 16 ((x.toNat + y.toNat) % 65536) :=
  (BitVec.toNat_eq_nat.mp (BitVec.toNat_add x y)).2

/-- One less is 65535 more modulo 2^16 (43_alu16 R302). -/
theorem word_sub_one_eq_ofNat (x : Word) : x - 1#16 = BitVec.ofNat 16 ((x.toNat + 65535) % 65536) :=
  (BitVec.sub_eq_add_neg x 1#16).trans (word_add_eq_ofNat x (-1#16))

/-! ## The obligations -/

/-- Settles O24: the form as it runs, with the sum and the flags of `addWords` on `HL` and the pair. -/
theorem addPairToHl : Obligations.AddPairToHl := by
  intro i p s h x v
  have hv : v = (getPair p s).toNat := by cases p <;> rfl
  obtain ⟨henc, hexec⟩ := encode_exec_of_form h s
  have hsum : getHl s + getPair p s = BitVec.ofNat 16 ((x + v) % 65536) := hv ▸ word_add_eq_ofNat ..
  rw [← hsum, hv, flagZ_eq]
  exact ⟨_, flagsAre_packF .., henc, hexec⟩

/-- Settles O25: both forms as they run; they write the pair and the cost alone. -/
theorem incrementAndDecrementPair : Obligations.IncrementAndDecrementPair := by
  intro i p s v
  have hv : v = (getPair p s).toNat := by cases p <;> rfl
  have hinc : getPair p s + 1#16 = BitVec.ofNat 16 ((v + 1) % 65536) := hv ▸ word_add_eq_ofNat ..
  have hdec : getPair p s - 1#16 = BitVec.ofNat 16 ((v + 65535) % 65536) := hv ▸ word_sub_one_eq_ofNat ..
  rw [← hinc, ← hdec]
  exact ⟨fun h => encode_exec_of_form h s, fun h => encode_exec_of_form h s⟩

end Sys2Proof.Machine
end

section
/-! PROOFS. The rotates, shifts and bit operations: concatenations and bit fields as numbers, the result of a rotate and
the bit it shifts out by `rotNat`, the bits of `RES` and `SET`, and the statements settled by them. -/

namespace Sys2Proof.Machine

open Sys2Proof Sys2Proof.Claims

/-! ## Bit fields as numbers -/

theorem append_toNat_eq_add {m n : Nat} (hi : BitVec m) (lo : BitVec n) :
    (hi ++ lo).toNat = 2 ^ n * hi.toNat + lo.toNat := by
  rw [BitVec.toNat_append, ← Nat.shiftLeft_add_eq_or_of_lt lo.isLt, Nat.shiftLeft_eq, Nat.mul_comm]

theorem extractLsb'_toNat_eq_div {w : Nat} (v : BitVec w) (start len : Nat) :
    (v.extractLsb' start len).toNat = v.toNat / 2 ^ start % 2 ^ len := by
  rw [BitVec.extractLsb'_toNat, Nat.shiftRight_eq_div_pow]

/-- The highest bit of a byte as a number; `omega` needs the two values apart. -/
theorem div_128_eq_zero_or_one (v : Byte) : v.toNat / 128 = 0 ∨ v.toNat / 128 = 1 :=
  Nat.le_one_iff_eq_zero_or_eq_one.mp (Nat.le_of_lt_succ (Nat.div_lt_of_lt_mul v.isLt))

theorem getLsbD_seven_eq (v : Byte) : v.getLsbD 7 = decide (v.toNat / 128 = 1) := by
  have hbit : v.getLsbD 7 = decide (v.toNat / 128 % 2 = 1) := Nat.testBit_eq_decide_div_mod_eq
  rcases div_128_eq_zero_or_one v with h | h <;> rw [hbit, h]

theorem getLsbD_zero_eq (v : Byte) : v.getLsbD 0 = decide (v.toNat % 2 = 1) := Nat.testBit_zero ..

/-! ## Rotates and shifts (44_rotate_shift_bit R310 to R322) -/

/-- The result of a rotate or shift, as a concatenation of fields of the operand, is the number `rotNat` computes: each
field is a quotient and a remainder, and the concatenation their weighted sum. -/
theorem rotResult_toNat (op : RotOp) (v : Byte) (cin : Bool) :
    (rotResult op v cin).1.toNat = (rotNat op v.toNat cin.toNat).1 := by
  have hv := v.isLt
  have h7 := div_128_eq_zero_or_one v
  have hc := cin.toNat_le
  cases op <;>
    simp only [rotResult, rotNat, append_toNat_eq_add, extractLsb'_toNat_eq_div, BitVec.toNat_ofBool,
      BitVec.toNat_ofNat] <;>
    omega

/-- The bit shifted out: bit 7 to the left, bit 0 to the right, none for `SWAP`. -/
theorem rotResult_bitOut (op : RotOp) (v : Byte) (cin : Bool) :
    (rotResult op v cin).2 = decide ((rotNat op v.toNat cin.toNat).2 = 1) := by
  cases op with
  | rlc | rl | sla => exact getLsbD_seven_eq v
  | rrc | rr | sra | srl => exact getLsbD_zero_eq v
  | swap => rfl

/-- The accumulator rotates with their result as a number; `fZ` is cleared whatever it is. -/
theorem accRot_eq (op : RotOp) (s : State) :
    accRot op s = { s with
      a := BitVec.ofNat 8 (rotNat op s.a.toNat (flagC s.f).toNat).1
      f := accRotFlags (decide ((rotNat op s.a.toNat (flagC s.f).toNat).2 = 1))
      cycles := 4 } := by
  rw [flagC_eq, ← rotResult_toNat, ← rotResult_bitOut, BitVec.ofNat_toNat, BitVec.setWidth_eq]
  rfl

/-- A CB-page rotate or shift with its result and flags as numbers. -/
theorem rotResult_resultIs (op : RotOp) (v f : Byte) :
    ResultIs ((rotResult op v (cOf f)).1, rotFlags (rotResult op v (cOf f)).1 (rotResult op v (cOf f)).2)
      (rotNat op v.toNat (flagC f).toNat).1 false false
      (decide ((rotNat op v.toNat (flagC f).toNat).2 = 1)) := by
  rw [flagC_eq, ← rotResult_bitOut]
  exact resultIs_packF (rotResult_toNat ..) ..

theorem cbWriteCost_eq (o : Opnd) : cbWriteCost o = byOpnd o 8 16 := by cases o <;> rfl

theorem cbReadCost_eq (o : Opnd) : cbReadCost o = byOpnd o 8 12 := by cases o <;> rfl

/-! ## One bit of an operand (44_rotate_shift_bit R324, R325) -/

theorem getLsbD_one_shiftLeft (k : BitVec 3) (j : Nat) : (1#8 <<< k.toNat).getLsbD j = decide (j = k.toNat) := by
  rw [← BitVec.twoPow_eq, BitVec.getLsbD_twoPow, decide_eq_true k.isLt, Bool.true_and]
  exact decide_eq_decide.mpr eq_comm

theorem getLsbD_resetBit (k : BitVec 3) (v : Byte) {j : Nat} (hj : j < 8) :
    (resetBit k v).getLsbD j = if j = k.toNat then false else v.getLsbD j := by
  rw [resetBit, BitVec.getLsbD_and, BitVec.getLsbD_not, getLsbD_one_shiftLeft]
  by_cases h : j = k.toNat <;> simp [h, hj]

theorem getLsbD_setBit (k : BitVec 3) (v : Byte) (j : Nat) :
    (setBit k v).getLsbD j = if j = k.toNat then true else v.getLsbD j := by
  rw [setBit, BitVec.getLsbD_or, getLsbD_one_shiftLeft]
  by_cases h : j = k.toNat <;> simp [h]

/-! ## The obligations -/

/-- Settles O26: each instruction runs `accRot` of its operation. -/
theorem accumulatorRotates : Obligations.AccumulatorRotates := by
  intro s x hx r
  refine ⟨accRotFlags (decide (r.2 = 1)), flagsAre_packF .., ?_⟩
  rw [← accRot_eq x.2.1 s]
  simp only [List.mem_cons, List.not_mem_nil, or_false] at hx
  rcases hx with rfl | rfl | rfl | rfl
  · exact encode_exec_of_form (f := .rlca) rfl s
  · exact encode_exec_of_form (f := .rrca) rfl s
  · exact encode_exec_of_form (f := .rla) rfl s
  · exact encode_exec_of_form (f := .rra) rfl s

/-- Settles O27: the form as it runs, with the result and the flags of the operation as numbers. -/
theorem cbRotatesAndShifts : Obligations.CbRotatesAndShifts := by
  intro i op o s h r
  obtain ⟨henc, hexec⟩ := encode_exec_of_form h s
  have hr := rotResult_resultIs op (getOpnd o s) s.f
  rw [← cbWriteCost_eq]
  exact ⟨_, hr.flags, henc, hr.eq_ofNat ▸ hexec⟩

/-- Settles O28: the three forms as they run, with the bits of the byte that RES and SET write. -/
theorem bitTestResetSet : Obligations.BitTestResetSet := by
  intro i k o s
  rw [flagC_eq, ← cbReadCost_eq, ← cbWriteCost_eq]
  refine ⟨fun h => ?_, fun h => ?_, fun h => ?_⟩ <;> obtain ⟨henc, hexec⟩ := encode_exec_of_form h s
  · exact ⟨_, flagsAre_packF .., henc, hexec⟩
  · exact ⟨_, fun _ hj => getLsbD_resetBit k _ hj, henc, hexec⟩
  · exact ⟨_, fun j _ => getLsbD_setBit k _ j, henc, hexec⟩

end Sys2Proof.Machine
end

section
/-! PROOFS. The control transfers: calls and returns with the stack written out, and the statements settled by them. -/

namespace Sys2Proof.Machine

open Sys2Proof Sys2Proof.Claims

/-! ## Calls and returns with the stack written out -/

/-- A call is the two writes of `Push16` on the return address, then the jump (45_control R346, R351). -/
theorem callTo_eq_memWrite (cost : Nat) (target : Word) (s : State) : callTo cost target s =
    { memWrite (s.sp - 2#16) (loByte s.pc) (memWrite (s.sp - 1#16) (hiByte s.pc) s)
      with sp := s.sp - 2#16, pc := target, cycles := cost } := by
  rw [callTo, push16_eq_memWrite]
  rfl

/-- A return reads the low half of `PC` at `SP` and its high half at `SP + 1` (45_control R348). -/
theorem returnPc_eq_memRead (s : State) : returnPc s =
    { s with pc := memRead s (s.sp + 1#16) ++ memRead s s.sp, sp := s.sp + 2#16 } := by
  rw [returnPc, popState_eq]
  rfl

/-! ## The obligations -/

/-- Settles O29: the forms as they run; the model's condition is the one on the flags, and the displacement is added
modulo 2^16. -/
theorem jumpsTakeTheTarget : Obligations.JumpsTakeTheTarget := by
  intro i k s
  rw [← condHolds_eq_condTrue]
  refine ⟨?_, ?_, fun nn h => encode_exec_of_form h s, fun e =>
    ⟨s.pc + sext16 e, add_sext16_toNat s.pc e, ?_, fun h => encode_exec_of_form h s⟩⟩
  · rintro nn rfl
    exact encode_exec_of_form (f := .jp nn) rfl s
  · rintro rfl
    exact encode_exec_of_form (f := .jpHl) rfl s
  · rintro rfl
    exact encode_exec_of_form (f := .jr e) rfl s

/-- Settles O30: each form that calls is `callTo` at its cost and target, which is the two writes and the jump. -/
theorem callsPushTheReturnAddress : Obligations.CallsPushTheReturnAddress := by
  intro i s called
  have hcall (target : Word) (cost : Nat) : called target cost = callTo cost target s :=
    (callTo_eq_memWrite cost target s).symm
  simp only [hcall, ← condHolds_eq_condTrue]
  exact ⟨fun nn h => encode_exec_of_form h s, fun k nn h => encode_exec_of_form h s,
    fun k h => encode_exec_of_form h s⟩

/-- Settles O31: each form that returns is `returnPc` at its cost; RETI then sets `IME`. -/
theorem returnsPopTheAddress : Obligations.ReturnsPopTheAddress := by
  intro i s back
  have hback (cost : Nat) : back cost = withCost cost (returnPc s) := by
    rw [returnPc_eq_memRead]
    rfl
  simp only [hback, ← condHolds_eq_condTrue]
  refine ⟨?_, fun k h => encode_exec_of_form h s, ?_⟩
  · rintro rfl
    exact encode_exec_of_form (f := .ret) rfl s
  · rintro rfl
    exact encode_exec_of_form (f := .reti) rfl s

end Sys2Proof.Machine
end

section
/-! PROOFS. The system instructions: when a request is pending, the step of a machine with nothing to service, the CB page
as the byte 0xCB enters it, and the statements settled by them. -/

namespace Sys2Proof.Machine

open Sys2Proof Sys2Proof.Claims

/-! ## The pending set (60_exceptions R412) -/

/-- The set is non-empty when some source is both enabled and requested. -/
theorem pendingSet_ne_zero_iff (s : State) :
    pendingSet s ≠ 0#5 ↔ ∃ k, k < 5 ∧ s.ie.getLsbD k = true ∧ s.irq.getLsbD k = true := by
  constructor
  · intro hne
    by_contra hnone
    refine hne (BitVec.eq_of_getLsbD_eq fun j hj => ?_)
    rw [getLsbD_pendingSet hj, BitVec.getLsbD_zero, ← Bool.not_eq_true, Bool.and_eq_true]
    exact fun hbits => hnone ⟨j, hj, hbits⟩
  · rintro ⟨k, hk, hie, hirq⟩ hzero
    have hbit := getLsbD_pendingSet (s := s) hk
    rw [hzero, hie, hirq, BitVec.getLsbD_zero] at hbit
    cases hbit

/-- The set as a number: bits 7 to 5 of `IE` take no part. -/
theorem pendingSet_toNat (s : State) : (pendingSet s).toNat = s.ie.toNat % 32 &&& s.irq.toNat := by
  rw [pendingSet, BitVec.toNat_and, extractLsb'_toNat_eq_div, pow_zero, Nat.div_one]
  rfl

/-! ## The step of a machine with nothing to service, and of a faulted one (60_exceptions R400, R406) -/

theorem runsInstruction_iff (s : State) :
    runsInstruction s ↔ s.mode = .running ∧ ¬(s.ime = true ∧ pendingSet s ≠ 0#5) := by
  rw [runsInstruction, ← pendingSet_toNat, ← BitVec.toNat_ne_iff_ne, BitVec.toNat_zero]

theorem wake_of_running {s : State} (h : s.mode = .running) : wake s = s := by rw [wake, h]

/-- On a running machine with nothing to service, the step is part (5) of R400. -/
theorem step_of_runsInstruction {s : State} (h : runsInstruction s) : step s = runInstruction s := by
  obtain ⟨hrun, hserve⟩ := (runsInstruction_iff s).1 h
  have hfault : s.mode ≠ .faulted := by rw [hrun]; decide
  rw [step, stepMachine, if_neg hfault, wake_of_running hrun, if_pos hrun, serviceOrRun]
  split
  · next hime =>
    have hzero : pendingSet s = 0#5 := by_contra fun hne => hserve ⟨hime, hne⟩
    rw [hzero]
    rfl
  · rfl

theorem step_of_faulted {s : State} (h : s.mode = .faulted) : step s = .fault (.unimplementedOpcode s.fault) :=
  if_pos h

theorem stepFailure_of_faulted {s : State} (h : s.mode = .faulted) :
    stepFailure s = some (.unimplementedOpcode s.fault) :=
  if_pos h

/-- An undefined opcode byte at `PC` ends the step in the fault state (46_system R376). -/
theorem runInstruction_of_isUndefined {s : State} (h : isUndefined (fetchOpcode s) = true) :
    runInstruction s = .next (raiseUndefined (fetchOpcode s) s) := by
  rw [runInstruction_eq, if_pos h, form_fetchInstr_of_isUndefined h]
  rfl

/-! ## The CB page as the byte 0xCB enters it (46_system R375) -/

theorem rotOp_ofCode_eq (k : BitVec 3) : RotOp.ofCode k = rotAt k.toNat := rfl

theorem opnd_ofCode_eq (k : BitVec 3) : Opnd.ofCode k = opndAt k.toNat := by
  revert k
  decide

/-- The form of a CB-page byte runs as the entry of that byte: both read the fields `x`, `y` and `z` (30_encoding R180). -/
theorem run_cbForm (op2 : Byte) (s : State) : Laws.Form.run (cbForm op2) s = cbEntry op2 s := by
  have hx : (op2.extractLsb' 6 2).toNat = fieldX op2 :=
    (extractLsb'_toNat_eq_div ..).trans (Nat.mod_eq_of_lt (Nat.div_lt_of_lt_mul op2.isLt))
  have hy : (op2.extractLsb' 3 3).toNat = fieldY op2 := extractLsb'_toNat_eq_div ..
  have hz : (op2.extractLsb' 0 3).toNat = fieldZ op2 := by
    rw [extractLsb'_toNat_eq_div, pow_zero, Nat.div_one]
    rfl
  rw [cbForm, cbEntry, rotOp_ofCode_eq, opnd_ofCode_eq, hx, hy, hz, ← hy, BitVec.ofNat_toNat, BitVec.setWidth_eq]
  match fieldX op2 with
  | 0 | 1 | 2 | _ + 3 => rfl

theorem exec_cbPage (op2 : Byte) (s : State) : exec (cbPage op2) s = .next (cbEntry op2 s) := by
  rw [Laws.exec_eq_run, form_cbPage, run_cbForm]

/-! ## The obligations -/

/-- Settles O32: the four forms as they run. -/
theorem nopStopAndEnables : Obligations.NopStopAndEnables := fun s =>
  ⟨encode_exec_of_form (f := .nop) rfl s, fun n => encode_exec_of_form (f := .stop n) rfl s,
    encode_exec_of_form (f := .di) rfl s, encode_exec_of_form (f := .ei) rfl s⟩

/-- Settles O33: the pending set that HALT tests is non-empty exactly when some source is enabled and requested. -/
theorem haltHaltsOrArmsTheQuirk : Obligations.HaltHaltsOrArmsTheQuirk := by
  intro s enabled
  have hpending : enabled ↔ pendingSet s ≠ 0#5 := (pendingSet_ne_zero_iff s).symm
  obtain ⟨hbytes, hexec⟩ := encode_exec_of_form (i := .halt) (f := .halt) rfl s
  rw [hpending, hexec, Laws.Form.run, haltOp]
  refine ⟨hbytes, fun harm => ?_, fun hhalts => ?_⟩
  · rw [if_pos harm]
    rfl
  · rw [if_neg hhalts]
    rfl

/-- Settles O34: the byte 0xCB alone and the CB-page instruction both end in the entry of the byte at `PC`. -/
theorem prefixSelectsTheCbPage : Obligations.PrefixSelectsTheCbPage :=
  ⟨rfl, fun s => ⟨prefixOp s, rfl, exec_cbPage _ _, decode_cb _ _⟩⟩

/-- Settles O35: an undefined form raises the fault, the step at an undefined byte runs that form, and the state it leaves
is faulted with the record. -/
theorem undefinedOpcodeFaultsPrecisely : Obligations.UndefinedOpcodeFaultsPrecisely := by
  refine ⟨fun i op s hform => ?_, fun s hruns hbyte => ?_⟩
  · obtain ⟨hbytes, hexec⟩ := encode_exec_of_form hform s
    exact ⟨hbytes, mem_undefinedBytes_of_form hform, hexec⟩
  · have hstep : step s = .next (raiseUndefined (memRead s s.pc) s) := by
      rw [step_of_runsInstruction hruns]
      exact runInstruction_of_isUndefined ((isUndefined_iff _).2 hbyte)
    exact ⟨_, hstep, rfl, stepFailure_of_faulted rfl, step_of_faulted rfl⟩

end Sys2Proof.Machine
end

section
/-! PROOFS. The timer: one pass of the loop of `tick` is one increment of the counter, so the loop increments it as many
times as the period goes into the prescaler; and the statement settled by it. -/

namespace Sys2Proof.Machine

open Sys2Proof Sys2Proof.Claims

/-! ## The timer control -/

theorem timerPeriod_eq_periodOf (tac : BitVec 3) : timerPeriod tac = periodOf tac := by
  revert tac
  decide

/-- The enable bit of the timer control is the weight 4 of its value (60_exceptions R443). -/
theorem tac_getLsbD_two (tac : BitVec 3) : tac.getLsbD 2 = decide (4 ≤ tac.toNat) := by
  revert tac
  decide

/-! ## The counter, pass by pass (60_exceptions R446, R447) -/

/-- No increment takes a request back. -/
theorem le_iterate_counterUp (tma : Byte) (k : Nat) (x : Byte × Nat) : x.2 ≤ ((counterUp tma)^[k] x).2 := by
  induction k generalizing x with
  | zero => exact Nat.le_refl _
  | succ k ih =>
    have hone : x.2 ≤ (counterUp tma x).2 := by
      unfold counterUp
      split
      · exact Nat.le_succ _
      · exact Nat.le_refl _
    exact hone.trans (ih (counterUp tma x))

/-- What the loop of `tick` answers when it leaves the prescaler at `tsub`, the counter at `x.1` and the number of
requests, `n` before it, at `x.2`: `IF[2]` is set if there was one more. -/
def counted (tsub n : Nat) (x : Byte × Nat) (s : State) : State × Nat :=
  ({ s with tsub := tsub, tima := x.1, irq := if n < x.2 then s.irq ||| Source.timer.mask else s.irq }, x.2)

theorem counted_self (n : Nat) (s : State) : counted s.tsub n (s.tima, n) s = (s, n) := by
  rw [counted, if_neg (Nat.lt_irrefl n)]

/-- The first overflow has already set `IF[2]`. -/
theorem counted_request {n : Nat} {x : Byte × Nat} (h : n + 1 ≤ x.2) (tsub : Nat) (s : State) :
    counted tsub (n + 1) x (request .timer s) = counted tsub n x s := by
  have hirq : (request .timer s).irq ||| Source.timer.mask = (request .timer s).irq := by
    rw [request_irq, BitVec.or_assoc, BitVec.or_self]
  rw [counted, counted, hirq, ite_self, if_pos (Nat.lt_of_succ_le h)]
  rfl

/-- A prescaler below the period counts nothing. -/
theorem counted_of_lt {period : Nat} {s : State} (h : s.tsub < period) (n : Nat) :
    counted (s.tsub % period) n ((counterUp s.tma)^[s.tsub / period] (s.tima, n)) s = (s, n) := by
  rw [Nat.mod_eq_of_lt h, Nat.div_eq_of_lt h, Function.iterate_zero_apply, counted_self]

/-- The loop of `tick` with enough fuel: the prescaler's remainder is kept, and the counter is incremented once for each
period in it. -/
theorem tickLoop_eq_counted {period : Nat} (hp : 0 < period) (fuel : Nat) (s : State) (n : Nat) (h : s.tsub ≤ fuel) :
    tickLoop fuel period s n =
      counted (s.tsub % period) n ((counterUp s.tma)^[s.tsub / period] (s.tima, n)) s := by
  induction fuel generalizing s n with
  | zero => exact (counted_of_lt (Nat.lt_of_le_of_lt h hp) n).symm
  | succ fuel ih =>
    rw [tickLoop]
    split
    · next hle =>
      have hfuel : s.tsub - period ≤ fuel := by omega
      rw [Nat.div_eq_sub_div hp hle, Nat.mod_eq_sub_mod hle, Function.iterate_succ_apply]
      by_cases hff : s.tima = 0xFF#8
      · have hpass : timaIncrement { s with tsub := s.tsub - period } =
            (request .timer { s with tsub := s.tsub - period, tima := s.tma }, 1) := if_pos hff
        have hup : counterUp s.tma (s.tima, n) = (s.tma, n + 1) := if_pos hff
        rw [hpass, hup]
        exact (ih (request .timer { s with tsub := s.tsub - period, tima := s.tma }) (n + 1) hfuel).trans
          (counted_request (le_iterate_counterUp s.tma _ (s.tma, n + 1)) _ _)
      · have hpass : timaIncrement { s with tsub := s.tsub - period } =
            ({ s with tsub := s.tsub - period, tima := s.tima + 1#8 }, 0) := if_neg hff
        have hup : counterUp s.tma (s.tima, n) = (s.tima + 1#8, n) := if_neg hff
        rw [hpass, hup]
        exact ih { s with tsub := s.tsub - period, tima := s.tima + 1#8 } n hfuel
    · next hlt => exact (counted_of_lt (Nat.lt_of_not_le hlt) n).symm

/-! ## The obligations -/

/-- Settles O44: a disabled counter leaves the loop out; an enabled one runs it with `tsub + c` as fuel, which is
enough. -/
theorem tickAdvancesTheTimer : Obligations.TickAdvancesTheTimer := by
  intro c s up
  have hdiv : s.div + BitVec.ofNat 16 c = BitVec.ofNat 16 (s.div.toNat + c) := by
    rw [BitVec.ofNat_add, BitVec.ofNat_toNat, BitVec.setWidth_eq]
  unfold tickCount
  rw [tac_getLsbD_two, hdiv]
  refine ⟨fun hoff => ?_, fun hon => ?_⟩
  · rw [if_neg (by simpa using hoff)]
  · rw [if_pos (decide_eq_true hon)]
    refine (tickLoop_eq_counted (timerPeriod_pos s.tac) _
      { s with div := BitVec.ofNat 16 (s.div.toNat + c), tsub := s.tsub + c } 0 (Nat.le_refl _)).trans ?_
    rw [timerPeriod_eq_periodOf]
    rfl

end Sys2Proof.Machine
end

section
/-! PROOFS. The interrupts: the bits of the request flags, waking, the service of a source with its pushes written out,
and the statements settled by them. -/

namespace Sys2Proof.Machine

open Sys2Proof Sys2Proof.Claims

/-! ## The interrupt controller (60_exceptions section 3) -/

theorem Source.getLsbD_mask (k : Source) (j : Nat) : k.mask.getLsbD j = decide (j = k.bitIndex) := by
  rw [Source.mask, ← BitVec.twoPow_eq, BitVec.getLsbD_twoPow, decide_eq_true k.bitIndex_lt, Bool.true_and]
  exact decide_eq_decide.mpr eq_comm

theorem request_request (k : Source) (s : State) : request k (request k s) = request k s := by
  simp only [request, BitVec.or_assoc, BitVec.or_self]

theorem highestPending_eq_none_iff (pend : BitVec 5) : highestPending pend = none ↔ pend = 0#5 := by
  revert pend
  decide

theorem pendingSet_ne_zero_of_firstPending {s : State} {k : Source} (h : firstPending s k) : pendingSet s ≠ 0#5 := by
  intro hzero
  have hsome := (highestPending_pendingSet_iff s k).2 h
  rw [(highestPending_eq_none_iff _).2 hzero] at hsome
  cases hsome

theorem acknowledged_eq (irq : BitVec 5) (k : Source) : acknowledged irq k = irq &&& ~~~k.mask := by
  cases k <;> revert irq <;> decide

theorem Source.serviceAddress_eq (k : Source) : k.serviceAddress = BitVec.ofNat 16 (0x40 + 8 * k.bitIndex) :=
  (BitVec.ofNat_add _ _).symm

/-! ## Waking (60_exceptions R430, R436) -/

theorem wake_of_mode_running {s : State} (h : (wake s).mode = .running) : wake s = { s with mode := .running } := by
  rw [wake_eq, h]

theorem wake_mode_of_halted {s : State} (h : s.mode = .halted) :
    (wake s).mode = if pendingSet s ≠ 0#5 then .running else .halted := by
  rw [wake, h]
  dsimp only
  split
  · rfl
  · exact h

theorem wake_mode_of_stopped {s : State} (h : s.mode = .stopped) :
    (wake s).mode = if s.irq.getLsbD 4 then .running else .stopped := by
  rw [wake, h]
  dsimp only
  split
  · rfl
  · exact h

theorem step_of_asleep {s : State} (hf : s.mode ≠ .faulted) (hw : (wake s).mode ≠ .running) :
    step s = .next (idle s) := by
  rw [step, stepMachine, if_neg hf, if_neg hw]

/-- A machine that is running after the wake steps as the running machine it wakes to. -/
theorem step_of_awake {s : State} (hf : s.mode ≠ .faulted) (hw : (wake s).mode = .running) :
    step s = serviceOrRun { s with mode := .running } := by
  rw [step, stepMachine, if_neg hf, if_pos hw, wake_of_mode_running hw]

theorem step_running (s : State) : step { s with mode := .running } = serviceOrRun { s with mode := .running } :=
  step_of_awake (s := { s with mode := .running }) nofun rfl

/-! ## Interrupt service (60_exceptions R420) -/

/-- The same machine with its mode, its enables and its quirk replaced. -/
def withControl (m : Mode) (ime pending quirk : Bool) (s : State) : State :=
  { s with mode := m, ime := ime, imePending := pending, haltBug := quirk }

theorem cartWrite_withControl (addr : Word) (v : Byte) (m : Mode) (ime pending quirk : Bool) (s : State) :
    cartWrite addr v (withControl m ime pending quirk s) = withControl m ime pending quirk (cartWrite addr v s) := by
  cases hm : s.cart.mapper with
  | noMapper => simp only [cartWrite, withControl, hm]
  | banked =>
    simp only [cartWrite, withControl, hm]
    split_ifs <;> rfl

/-- A byte write neither reads nor writes the control state (20_memory R83). -/
theorem memWrite_withControl (addr : Word) (v : Byte) (m : Mode) (ime pending quirk : Bool) (s : State) :
    memWrite addr v (withControl m ime pending quirk s) = withControl m ime pending quirk (memWrite addr v s) := by
  have hon : xramOn (withControl m ime pending quirk s) = xramOn s := rfl
  cases hr : regionOf addr <;> simp only [memWrite, hr]
  case romFixed | romBanked => exact cartWrite_withControl addr v m ime pending quirk s
  case xram =>
    rw [hon]
    split <;> rfl
  all_goals rfl

theorem push16_withControl (v : Word) (m : Mode) (ime pending quirk : Bool) (s : State) :
    push16 v (withControl m ime pending quirk s) = withControl m ime pending quirk (push16 v s) := by
  rw [push16_eq_memWrite, push16_eq_memWrite]
  show { memWrite (s.sp - 2#16) (loByte v) (memWrite (s.sp - 1#16) (hiByte v) (withControl m ime pending quirk s)) with
    sp := s.sp - 2#16 } = _
  rw [memWrite_withControl, memWrite_withControl]
  rfl

/-- Service on a running machine, with the pushes done on the state as it stood. -/
theorem service_eq_memWrite (k : Source) (s : State) : service k { s with mode := .running } =
    { memWrite (s.sp - 2#16) (loByte s.pc) (memWrite (s.sp - 1#16) (hiByte s.pc) s) with
      sp := s.sp - 2#16, pc := BitVec.ofNat 16 (0x40 + 8 * k.bitIndex), mode := .running, ime := false
      imePending := false, haltBug := false
      irq := acknowledged (memWrite (s.sp - 2#16) (loByte s.pc) (memWrite (s.sp - 1#16) (hiByte s.pc) s)).irq k
      cycles := 20 } := by
  show withCost serviceCycles { acknowledge k (push16 s.pc (withControl .running false false false s)) with
    pc := k.serviceAddress } = _
  rw [push16_withControl, push16_eq_memWrite, k.serviceAddress_eq, acknowledged_eq]
  rfl

/-- On a running machine with `IME = 1` the pending source of highest priority is serviced. -/
theorem serviceOrRun_of_firstPending {s : State} {k : Source} (hime : s.ime = true) (h : firstPending s k) :
    serviceOrRun s = .next (finish (service k s)) := by
  rw [serviceOrRun, if_pos hime, (highestPending_pendingSet_iff s k).2 h]

/-! ## The obligations -/

/-- Settles O38: by the mode and its event, the machine stays asleep and idles or wakes to the running machine. -/
theorem haltedAndStoppedMachinesIdle : Obligations.HaltedAndStoppedMachinesIdle := by
  intro s enabled
  have hpending : enabled ↔ pendingSet s ≠ 0#5 := (pendingSet_ne_zero_iff s).symm
  rw [hpending]
  have idles (hf : s.mode ≠ .faulted) (hw : (wake s).mode ≠ .running) :
      step s = .next (tick 4 { s with clock := s.clock + 4, cycles := 4 }) := step_of_asleep hf hw
  have wakes (hf : s.mode ≠ .faulted) (hw : (wake s).mode = .running) :
      step s = step { s with mode := .running } := (step_of_awake hf hw).trans (step_running s).symm
  refine ⟨?_, ?_⟩
  · rintro (⟨hm, hevent⟩ | ⟨hm, hevent⟩)
    · exact idles (by simp [hm]) (by rw [wake_mode_of_halted hm, if_neg hevent]; exact nofun)
    · exact idles (by simp [hm]) (by rw [wake_mode_of_stopped hm, hevent]; exact nofun)
  · rintro (⟨hm, hevent⟩ | ⟨hm, hevent⟩)
    · exact wakes (by simp [hm]) (by rw [wake_mode_of_halted hm, if_pos hevent])
    · exact wakes (by simp [hm]) (by rw [wake_mode_of_stopped hm, if_pos hevent])

/-- Settles O39: in each of the three modes the machine is awake, so the step services the source, whose pushes are the
two writes. -/
theorem interruptServiceStep : Obligations.InterruptServiceStep := by
  intro s k hmode hime hk pushed
  have hawake : s.mode ≠ .faulted ∧ (wake s).mode = .running := by
    rcases hmode with hm | hm | ⟨hm, hjoypad⟩
    · exact ⟨by simp [hm], by rw [wake_of_running hm, hm]⟩
    · exact ⟨by simp [hm], by rw [wake_mode_of_halted hm, if_pos (pendingSet_ne_zero_of_firstPending hk)]⟩
    · exact ⟨by simp [hm], by rw [wake_mode_of_stopped hm, if_pos hjoypad]⟩
  rw [step_of_awake hawake.1 hawake.2, serviceOrRun_of_firstPending (s := { s with mode := .running }) hime hk,
    service_eq_memWrite, finish]
  simp only [memWrite_clock]
  rfl

/-- Settles O40: the bits of the pending set are those set in both `IE` and `IF`. -/
theorem priorityIsLowestNumber : Obligations.PriorityIsLowestNumber := by
  refine ⟨rfl, fun s => ⟨highestPending_pendingSet_iff s, ?_⟩⟩
  rw [highestPending_eq_none_iff, ← not_iff_not, ← ne_eq, pendingSet_ne_zero_iff]
  simp only [not_forall, not_not, exists_prop]

/-- Settles O41: the mask of a source has its bit alone. -/
theorem controllerOperations : Obligations.ControllerOperations := by
  refine fun s k on => ⟨⟨rfl, request_request k s, fun j hj => ?_⟩, ⟨rfl, fun j hj => ?_⟩, rfl⟩
  · rw [request_irq, BitVec.getLsbD_or, k.getLsbD_mask, Bool.or_comm]
  · rw [acknowledge_irq, BitVec.getLsbD_and, BitVec.getLsbD_not, k.getLsbD_mask, decide_eq_true hj, Bool.true_and,
      Bool.and_comm]

end Sys2Proof.Machine
end

section
/-! PROOFS. The instruction step: the instruction it fetches, the delayed enable, the cost of every form and the
divider, and the statements settled by them. -/

namespace Sys2Proof.Machine

open Sys2Proof Sys2Proof.Claims

/-! ## The instruction a step runs (60_exceptions R400 part 5) -/

theorem operandBase_add (s : State) (n : Nat) :
    operandBase s + BitVec.ofNat 16 n = s.pc + BitVec.ofNat 16 (if s.haltBug then n else n + 1) := by
  unfold operandBase
  split
  · rfl
  · rw [BitVec.add_assoc, Nat.add_comm, BitVec.ofNat_add]

theorem fetched_eq_afterFetch (s : State) {len : Nat} (h : 0 < len) : fetched s len = afterFetch len s := by
  obtain ⟨n, rfl⟩ := Nat.exists_eq_add_one.2 h
  rw [afterFetch, Nat.add_sub_cancel, operandBase_add]
  rfl

theorem fetchedBytes_eq (s : State) :
    fetchedBytes s = [fetchOpcode s, (fetchOperands s).1, (fetchOperands s).2] := by
  have hsecond : operandBase s + 1#16 = s.pc + BitVec.ofNat 16 (if s.haltBug then 1 else 2) := operandBase_add s 1
  rw [fetchOperands, hsecond, operandBase, fetchedBytes]
  split <;> rfl

theorem decode_fetchedBytes {s : State} {i : Instr} {rest : List Byte} (h : decode (fetchedBytes s) = .ok (i, rest)) :
    i = fetchInstr s := by
  rw [fetchedBytes_eq] at h
  rcases decode_ok_cases h with ⟨hcb, -, -⟩ | ⟨-, hi, -⟩
  · simp at hcb
  · exact hi

theorem encode_fetchInstr_length (s : State) : (encode (fetchInstr s)).length = opLength (fetchOpcode s) := by
  rw [fetchInstr, encode_decodeOp, List.length_take]
  exact Nat.min_eq_left (opLength_le_three _)

theorem not_isUndefined {op : Byte} (h : op ∉ undefinedBytes) : ¬isUndefined op = true :=
  fun hu => h ((isUndefined_iff op).1 hu)

/-- At a defined opcode byte, the state the step ends in. -/
theorem eq_instructionEnd_of_step {s t : State} (h : runsInstruction s) (hdef : memRead s s.pc ∉ undefinedBytes)
    (hstep : step s = .next t) : t = instructionEnd s := by
  have hu : ¬isUndefined (fetchOpcode s) = true := not_isUndefined hdef
  rw [step_of_runsInstruction h, runInstruction_eq, if_neg hu] at hstep
  exact (Host.Outcome.next.inj hstep).symm

/-! ## The delayed enable (60_exceptions R426) -/

theorem untouched_imePending : Untouched State.imePending :=
  ⟨fun _ _ _ _ _ _ _ _ _ _ _ _ => rfl, memWrite_imePending⟩

@[simp] theorem haltOp_imePending (s : State) : (haltOp s).imePending = s.imePending := by rw [haltOp_eq]

/-- `DI` and `EI` are the only forms that write `ime_pending` (46_system R373, R374). -/
theorem run_imePending {f : Form} (hdi : f ≠ .di) (hei : f ≠ .ei) (s : State) :
    (Laws.Form.run f s).imePending = s.imePending := by
  cases f
  case halt => exact haltOp_imePending s
  case stop | reti | illegal => rfl
  case di => exact absurd rfl hdi
  case ei => exact absurd rfl hei
  all_goals exact untouched_imePending.run rfl s

/-- No form but `DI` takes a pending enable back. -/
theorem run_keeps_imePending {f : Form} (hdi : f ≠ .di) {s : State} (h : s.imePending = true) :
    (Laws.Form.run f s).imePending = true := by
  by_cases hei : f = .ei
  · subst hei
    rfl
  · rw [run_imePending hdi hei, h]

/-- No form but `EI` makes an enable pending. -/
theorem run_imePending_eq_false {f : Form} (hei : f ≠ .ei) {s : State} (h : s.imePending = false) :
    (Laws.Form.run f s).imePending = false := by
  by_cases hdi : f = .di
  · subst hdi
    rfl
  · rw [run_imePending hdi hei, h]

/-- No form but `RETI` sets the master enable. -/
theorem run_ime_eq_false {f : Form} (hreti : f ≠ .reti) {s : State} (h : s.ime = false) :
    (Laws.Form.run f s).ime = false :=
  eq_false_of_ne_true fun h1 => hreti (eq_reti_of_run_sets_ime h h1)

@[simp] theorem promoteIme_imePending (promote : Bool) (s : State) :
    (promoteIme promote s).imePending = (!promote && s.imePending) := by
  cases promote with
  | false => rfl
  | true =>
    unfold promoteIme
    cases hp : s.imePending <;> simp [hp]

/-- The state the instruction of a step leaves, before the promotion and the end of the step. -/
def instructionEffect (s : State) : State :=
  Laws.Form.run (fetchInstr s).form (afterFetch (opLength (fetchOpcode s)) s)

theorem instructionEnd_eq (s : State) : instructionEnd s = finish (promoteIme s.imePending (instructionEffect s)) := rfl

theorem instructionEnd_ime (s : State) :
    (instructionEnd s).ime = (s.imePending && (instructionEffect s).imePending || (instructionEffect s).ime) := by
  rw [instructionEnd_eq, finish_ime, promoteIme_ime]

theorem instructionEnd_imePending (s : State) :
    (instructionEnd s).imePending = (!s.imePending && (instructionEffect s).imePending) := by
  rw [instructionEnd_eq, finish_imePending, promoteIme_imePending]

theorem form_fetchInstr_of_ei {s : State} (h : fetchOpcode s = 0xFB#8) : (fetchInstr s).form = .ei := by
  rw [fetchInstr, h]
  rfl

theorem form_fetchInstr_of_di {s : State} (h : fetchOpcode s = 0xF3#8) : (fetchInstr s).form = .di := by
  rw [fetchInstr, h]
  rfl

/-! ## The cost of every form (60_exceptions R401) -/

/-- The costs a completed step can have (60_exceptions R401). -/
def stepCosts : List Nat := [4, 8, 12, 16, 20, 24]

theorem aluCost_mem (src : Src) : aluCost src ∈ stepCosts := by cases src <;> simp [aluCost, stepCosts]

theorem incCost_mem (o : Opnd) : incCost o ∈ stepCosts := by cases o <;> simp [incCost, stepCosts]

theorem cbWriteCost_mem (o : Opnd) : cbWriteCost o ∈ stepCosts := by cases o <;> simp [cbWriteCost, stepCosts]

theorem cbReadCost_mem (o : Opnd) : cbReadCost o ∈ stepCosts := by cases o <;> simp [cbReadCost, stepCosts]

theorem cbEntry_cycles_mem (op2 : Byte) (s : State) : (cbEntry op2 s).cycles ∈ stepCosts := by
  unfold cbEntry
  split
  · exact cbWriteCost_mem _
  · exact cbReadCost_mem _
  · exact cbWriteCost_mem _
  · exact cbWriteCost_mem _

/-- Every form but the undefined ones records a cost of the list. -/
theorem run_cycles_mem {f : Form} (hf : ∀ op, f ≠ .illegal op) (s : State) :
    (Laws.Form.run f s).cycles ∈ stepCosts := by
  cases f
  case illegal op => exact absurd rfl (hf op)
  case alu op src => exact aluCost_mem src
  case inc o | dec o => exact incCost_mem o
  case rot op o => exact cbWriteCost_mem o
  case res k o | set k o => exact cbWriteCost_mem o
  case bit k o => exact cbReadCost_mem o
  case prefixCb => exact cbEntry_cycles_mem ..
  case jpCond | jrCond | callCond | retCond =>
    simp only [Laws.Form.run, jpCond, jrCond, callCond, retCond]
    split <;> exact List.elem_iff.1 rfl
  all_goals exact List.elem_iff.1 rfl

/-! ## The mode after an instruction -/

theorem untouched_mode : Untouched State.mode := ⟨fun _ _ _ _ _ _ _ _ _ _ _ _ => rfl, memWrite_mode⟩

/-- No form but the undefined ones faults. -/
theorem run_mode_ne_faulted {f : Form} (hf : ∀ op, f ≠ .illegal op) {s : State} (h : s.mode ≠ .faulted) :
    (Laws.Form.run f s).mode ≠ .faulted := by
  cases f
  case illegal op => exact absurd rfl (hf op)
  case halt =>
    show (haltOp s).mode ≠ .faulted
    unfold haltOp
    split
    · exact h
    · exact nofun
  case stop => exact nofun
  case di | ei | reti => exact h
  all_goals rwa [untouched_mode.run rfl s]

@[simp] theorem promoteIme_mode (promote : Bool) (s : State) : (promoteIme promote s).mode = s.mode := by
  unfold promoteIme
  split <;> rfl

@[simp] theorem promoteIme_cycles (promote : Bool) (s : State) : (promoteIme promote s).cycles = s.cycles := by
  unfold promoteIme
  split <;> rfl

@[simp] theorem promoteIme_div (promote : Bool) (s : State) : (promoteIme promote s).div = s.div := by
  unfold promoteIme
  split <;> rfl

@[simp] theorem service_mode (k : Source) (s : State) : (service k s).mode = s.mode :=
  push16_mode s.pc { s with ime := false, imePending := false, haltBug := false }

/-! ## The divider: only a store to 0xFF04 clears it (20_memory R117) -/

/-- The divider is `d`, or a store cleared it. -/
def DivFrom (d : Word) (s : State) : Prop := s.div = d ∨ s.div = 0#16

section Divider

variable {d : Word} {s : State}

theorem memWrite_divFrom (h : DivFrom d s) (addr : Word) (v : Byte) : DivFrom d (memWrite addr v s) := by
  cases hr : regionOf addr <;> simp only [memWrite, hr]
  case romFixed | romBanked =>
    rw [cartWrite_eq]
    exact h
  case xram => split <;> exact h
  case div => exact .inr rfl
  all_goals exact h

theorem push16_divFrom (h : DivFrom d s) (v : Word) : DivFrom d (push16 v s) := by
  rw [push16_eq_memWrite]
  exact memWrite_divFrom (memWrite_divFrom h _ _) _ _

theorem setReg_divFrom (h : DivFrom d s) (r : Reg8) (v : Byte) : DivFrom d (setReg r v s) := by
  cases r <;> exact h

theorem setPair_divFrom (h : DivFrom d s) (p : Pair) (v : Word) : DivFrom d (setPair p v s) := by
  cases p <;> exact h

theorem setOpnd_divFrom (h : DivFrom d s) (o : Opnd) (v : Byte) : DivFrom d (setOpnd o v s) := by
  cases o with
  | reg r => exact setReg_divFrom h r v
  | memHl => exact memWrite_divFrom h _ v

theorem cbEntry_divFrom (h : DivFrom d s) (op2 : Byte) : DivFrom d (cbEntry op2 s) := by
  unfold cbEntry
  split
  · exact setOpnd_divFrom h ..
  · exact h
  · exact setOpnd_divFrom h ..
  · exact setOpnd_divFrom h ..

theorem run_divFrom (h : DivFrom d s) (f : Form) : DivFrom d (Laws.Form.run f s) := by
  cases f
  case ldRegReg | ldRegImm | ldRegMem => exact setReg_divFrom h ..
  case ldMemReg | ldMemImm | ldBcA | ldDeA | ldNnA | ldhCA | ldhNA | ldDecA | ldIncA => exact memWrite_divFrom h ..
  case ldPairImm | incPair | decPair => exact setPair_divFrom h ..
  case ldNnSp => exact memWrite_divFrom (memWrite_divFrom h ..) ..
  case pop p => cases p <;> exact h
  case inc | dec | rot | res | set => exact setOpnd_divFrom h ..
  case push | call | rst => exact push16_divFrom h _
  case callCond =>
    simp only [Laws.Form.run, callCond]
    split
    · exact push16_divFrom h _
    · exact h
  case jpCond | jrCond | retCond =>
    simp only [Laws.Form.run, jpCond, jrCond, retCond]
    split <;> exact h
  case halt =>
    show DivFrom d (haltOp s)
    rw [haltOp_eq]
    exact h
  case prefixCb => exact cbEntry_divFrom (s := { s with pc := s.pc + 1#16 }) h _
  all_goals exact h

theorem service_divFrom (h : DivFrom d s) (k : Source) : DivFrom d (service k s) :=
  push16_divFrom (s := { s with ime := false, imePending := false, haltBug := false }) h s.pc

end Divider

/-! ## A completed step (60_exceptions R401) -/

/-- From `s` to `t` the clock advanced by the cost `t` records, and so did the divider, unless a store cleared it. -/
def Advances (s t : State) : Prop :=
  t.cycles ∈ stepCosts ∧ t.clock = s.clock + t.cycles ∧
    (t.div = s.div + BitVec.ofNat 16 t.cycles ∨ t.div = BitVec.ofNat 16 t.cycles)

@[simp] theorem tick_div (c : Nat) (s : State) : (tick c s).div = s.div + BitVec.ofNat 16 c := by
  unfold tick tickCount
  dsimp only
  split
  · rw [tickLoop_eq]
  · rfl

@[simp] theorem finish_div (s : State) : (finish s).div = s.div + BitVec.ofNat 16 s.cycles := tick_div ..

theorem finish_advances {s u : State} (hcost : u.cycles ∈ stepCosts) (hclock : u.clock = s.clock)
    (hdiv : DivFrom s.div u) : Advances s (finish u) := by
  refine ⟨?_, ?_, ?_⟩
  · rwa [finish_cycles]
  · rw [finish_clock, finish_cycles, hclock]
  · rw [finish_div, finish_cycles]
    exact hdiv.imp (fun h => by rw [h]) (fun h => by rw [h, BitVec.zero_add])

/-- The instruction at a defined opcode byte has no undefined form. -/
theorem form_fetchInstr_ne_illegal {s : State} (h : isUndefined (fetchOpcode s) = false) (op : Byte) :
    (fetchInstr s).form ≠ .illegal op := by
  intro hform
  have hop : fetchOpcode s ∈ undefinedBytes :=
    eq_of_form_decodeOp_illegal hform ▸ mem_undefinedBytes_of_form hform
  rw [(isUndefined_iff _).2 hop] at h
  cases h

theorem instructionEnd_advances {s : State} (h : isUndefined (fetchOpcode s) = false) :
    Advances s (instructionEnd s) := by
  refine finish_advances ?_ ?_ ?_
  · rw [promoteIme_cycles]
    exact run_cycles_mem (form_fetchInstr_ne_illegal h) _
  · rw [promoteIme_clock, run_clock, afterFetch_clock]
  · rw [DivFrom, promoteIme_div]
    exact run_divFrom (.inl rfl) _

theorem instructionEnd_mode_ne_faulted {s : State} (h : isUndefined (fetchOpcode s) = false)
    (hm : s.mode ≠ .faulted) : (instructionEnd s).mode ≠ .faulted := by
  rw [instructionEnd, finish_mode, promoteIme_mode]
  exact run_mode_ne_faulted (form_fetchInstr_ne_illegal h) hm

/-- A step that answers a next state completes, without a fault and at its cost, or is the undefined-opcode fault. An
idle step, a service and a defined instruction all end in `finish`. -/
theorem step_advances_or_faults {s t : State} (h : step s = .next t) :
    (t.mode ≠ .faulted ∧ Advances s t) ∨ t = raiseUndefined (memRead s s.pc) s := by
  obtain ⟨hm, ⟨-, rfl⟩ | ⟨k, hrun, -, -, rfl⟩ | ⟨-, hu, rfl⟩ | ⟨hrun, hu, rfl⟩⟩ := step_next_cases h
  · refine .inl ⟨?_, finish_advances (List.elem_iff.1 rfl) rfl (.inl rfl)⟩
    rwa [idle, finish_mode]
  · rw [wake_of_mode_running hrun]
    refine .inl ⟨?_, finish_advances (List.elem_iff.1 rfl) (service_clock _ _) (service_divFrom (.inl rfl) k)⟩
    rw [finish_mode, service_mode]
    exact nofun
  · rw [form_fetchInstr_of_isUndefined hu, fetchOpcode_wake, wake_eq]
    exact .inr rfl
  · rw [wake_of_mode_running hrun] at hu ⊢
    exact .inl ⟨instructionEnd_mode_ne_faulted hu nofun, instructionEnd_advances hu⟩

/-! ## The obligations -/

/-- Settles O57: a step completes, which `Advances` describes, or takes the fault, which leaves the clock and the
timer. -/
theorem stepCostsAndClock : Obligations.StepCostsAndClock := by
  intro s t h
  rcases step_advances_or_faults h with ⟨hm, hadvances⟩ | rfl
  · exact ⟨fun _ => hadvances, fun hf => absurd hf hm⟩
  · exact ⟨fun hne => absurd rfl hne, fun _ => ⟨rfl, rfl, rfl, rfl⟩⟩

/-- Settles O42: promotion takes what was pending before the instruction and is still pending after it; only `DI`, `EI`
and `RETI` touch the two enables themselves. -/
theorem enableIsDelayedByOneInstruction : Obligations.EnableIsDelayedByOneInstruction := by
  intro s t hruns hime hdef hstep
  rw [eq_instructionEnd_of_step hruns hdef hstep, instructionEnd_ime, instructionEnd_imePending]
  have hne {f : Form} {b : Byte} (hb : (Laws.Form.bytes f).head? = some b) (h : memRead s s.pc ≠ b) :
      (fetchInstr s).form ≠ f := fun hf => h (fetchOpcode_of_form hf hb)
  unfold instructionEffect
  refine ⟨fun hpend hei => ?_, fun hpend hdi => ?_, fun hpend hdi => ?_, fun hpend hei hreti => ?_⟩
  · rw [form_fetchInstr_of_ei hei, hpend]
    exact ⟨hime, rfl⟩
  · rw [run_keeps_imePending (s := afterFetch _ s) (hne (f := .di) rfl hdi) hpend, hpend]
    exact ⟨rfl, rfl⟩
  · rw [form_fetchInstr_of_di hdi, hpend]
    exact ⟨rfl, rfl⟩
  · rw [run_imePending_eq_false (s := afterFetch _ s) (hne (f := .ei) rfl hei) hpend,
      run_ime_eq_false (s := afterFetch _ s) (hne (f := .reti) rfl hreti) hime, hpend]
    exact ⟨rfl, rfl⟩

/-- Settles O36: the bytes decode to the instruction the step fetches, and its encoding is as long as the step moves
`PC`. -/
theorem stepRunsDecodedInstruction : Obligations.StepRunsDecodedInstruction := by
  intro s i rest hruns hdecode
  obtain rfl := decode_fetchedBytes hdecode
  rw [step_of_runsInstruction hruns, runInstruction, encode_fetchInstr_length,
    fetched_eq_afterFetch s (opLength_pos _)]
  refine ⟨fun hundef => if_pos ((isUndefined_iff _).2 hundef), fun hdef t hexec => ?_⟩
  have hu : ¬isUndefined (fetchOpcode s) = true := not_isUndefined hdef
  rw [if_neg hu, hexec]
  rfl

/-- Settles O37: the step answers its record on a faulted machine, and the state it ends in on every other. -/
theorem faultedMachineStaysFaulted : Obligations.FaultedMachineStaysFaulted := fun s =>
  ⟨step_of_faulted, fun h => ⟨stepEnd s, step_eq_stepEnd h⟩⟩

end Sys2Proof.Machine
end

section
/-! PROOFS. The host interface and the environment: the bytes of the external RAM and their restore, the actions between
two steps, the passes of `run_until`, and the statements settled by them. -/

namespace Sys2Proof.Machine

open Sys2Proof Sys2Proof.Claims

/-! ## The bytes of a storage (70_reset R483) -/

@[simp] theorem length_bytesFrom (m : Memory) (i n : Nat) : (bytesFrom m i n).length = n := by
  induction n generalizing i with
  | zero => rfl
  | succ n ih => rw [bytesFrom, List.length_cons, ih]

theorem getElem?_bytesFrom (m : Memory) (i : Nat) {k n : Nat} (h : k < n) :
    (bytesFrom m i n)[k]? = some (m.read (i + k)) := by
  induction n generalizing i k with
  | zero => exact absurd h (Nat.not_lt_zero k)
  | succ n ih =>
    cases k with
    | zero => rfl
    | succ k =>
      rw [bytesFrom, List.getElem?_cons_succ, ih (i + 1) (Nat.lt_of_succ_lt_succ h), Nat.add_right_comm, Nat.add_assoc]

/-- The storage filled from a byte list holds that list. -/
theorem bytesFrom_ofBytes (i : Nat) (bytes : List Byte) :
    bytesFrom (Memory.ofBytes i bytes) i bytes.length = bytes := by
  refine List.ext_getElem? fun k => ?_
  rcases Nat.lt_or_ge k bytes.length with hk | hk
  · rw [getElem?_bytesFrom _ i hk, Memory.read_ofBytes, List.getD_eq_getElem?_getD, List.getElem?_eq_getElem hk,
      Option.getD_some]
  · rw [List.getElem?_eq_none hk, List.getElem?_eq_none ((length_bytesFrom ..).trans_le hk)]

theorem restore_of_length {bytes : List Byte} {s : State} (h : bytes.length = xramSize s.cart) :
    restore bytes s = .next { s with xram := Memory.ofBytes 0 bytes } := if_pos h

theorem restore_of_length_ne {bytes : List Byte} {s : State} (h : bytes.length ≠ xramSize s.cart) :
    restore bytes s = .refused .restoreLength := if_neg h

/-! ## What an accepted action does (70_reset R480) -/

/-- The five indices without a pass-through cell, as numbers (10_state R58). -/
theorem isPassThrough_iff (i : BitVec 7) :
    isPassThrough i = true ↔ i.toNat ∉ ([0x04, 0x05, 0x06, 0x07, 0x0F] : List Nat) := by
  simp [isPassThrough, ← BitVec.toNat_inj]

/-- Everything an accepted action of the environment can do. -/
theorem envAct_next_cases {e : EnvAction} {s t : State} (h : envAct e s = .next t) :
    (∃ k, t = request k s) ∨
    (∃ i v, isPassThrough i = true ∧ t = { s with io := s.io.write i.toNat v }) ∨
    (∃ (j : BitVec 13) (v : Byte), t = { s with vram := s.vram.write j.toNat v }) ∨
    (∃ (n : Fin 160) (v : Byte), t = { s with oam := s.oam.write n.val v }) ∨
    (∃ bytes, bytes.length = xramSize s.cart ∧ t = { s with xram := Memory.ofBytes 0 bytes }) := by
  cases e with
  | request k => exact .inl ⟨k, (Host.Outcome.next.inj h).symm⟩
  | writeIo i v =>
    rw [envAct] at h
    split at h
    · next hi => exact .inr (.inl ⟨i, v, hi, (Host.Outcome.next.inj h).symm⟩)
    · cases h
  | writeVram j v => exact .inr (.inr (.inl ⟨j, v, (Host.Outcome.next.inj h).symm⟩))
  | writeOam n v => exact .inr (.inr (.inr (.inl ⟨n, v, (Host.Outcome.next.inj h).symm⟩)))
  | restore bytes =>
    by_cases hlen : bytes.length = xramSize s.cart
    · cases (restore_of_length hlen).symm.trans h
      exact .inr (.inr (.inr (.inr ⟨bytes, hlen, rfl⟩)))
    · cases (restore_of_length_ne hlen).symm.trans h

/-! ## The invariant, action by action -/

section Invariant

variable {s : State}

/-- A request keeps the invariant. -/
theorem request_inv (h : s.Inv) (k : Source) : (request k s).Inv := h

/-- The invariant speaks of `IO`, `VRAM`, `OAM` and `XRAM` by their forms alone. -/
theorem inv_of_memInv (h : s.Inv) {io vram oam xram : Memory}
    (hm : s.MemInv → State.MemInv { s with io := io, vram := vram, oam := oam, xram := xram }) :
    State.Inv { s with io := io, vram := vram, oam := oam, xram := xram } := by
  obtain ⟨hflags, hbank, hmem, hrest⟩ := h
  exact ⟨hflags, hbank, hm hmem, hrest⟩

/-- A pass-through write stays inside `IO` and off the five indices without a cell (10_state R58). -/
theorem writeIo_inv (h : s.Inv) {i : BitVec 7} (hi : isPassThrough i = true) (v : Byte) :
    State.Inv { s with io := s.io.write i.toNat v } := by
  have keeps {k : Nat} (hk : k ∈ ([0x04, 0x05, 0x06, 0x07, 0x0F] : List Nat)) (hread : s.io.read k = 0x00#8) :
      (s.io.write i.toNat v).read k = 0x00#8 :=
    (Memory.read_write_other (ne_of_mem_of_not_mem hk ((isPassThrough_iff i).1 hi)) v s.io).trans hread
  exact inv_of_memInv h fun ⟨hw, hh, hio, hv, ho, hx, i4, i5, i6, i7, i15⟩ =>
    ⟨hw, hh, Memory.wf_write v hio i.isLt, hv, ho, hx, keeps (by decide) i4, keeps (by decide) i5,
      keeps (by decide) i6, keeps (by decide) i7, keeps (by decide) i15⟩

theorem writeVram_inv (h : s.Inv) (j : BitVec 13) (v : Byte) :
    State.Inv { s with vram := s.vram.write j.toNat v } :=
  inv_of_memInv h fun ⟨hw, hh, hio, hv, hrest⟩ => ⟨hw, hh, hio, Memory.wf_write v hv j.isLt, hrest⟩

theorem writeOam_inv (h : s.Inv) (n : Fin 160) (v : Byte) : State.Inv { s with oam := s.oam.write n.val v } :=
  inv_of_memInv h fun ⟨hw, hh, hio, hv, ho, hrest⟩ => ⟨hw, hh, hio, hv, Memory.wf_write v ho n.isLt, hrest⟩

/-- The restored bytes fill `XRAM` and no more (10_state R61). -/
theorem restore_inv (h : s.Inv) {bytes : List Byte} (hlen : bytes.length = xramSize s.cart) :
    State.Inv { s with xram := Memory.ofBytes 0 bytes } :=
  inv_of_memInv h fun ⟨hw, hh, hio, hv, ho, _, hcells⟩ =>
    ⟨hw, hh, hio, hv, ho, Memory.wf_ofBytes (Nat.le_of_eq hlen), hcells⟩

end Invariant

/-! ## The passes of `run_until` (70_reset R482) -/

theorem stepCosts_bounds {n : Nat} (h : n ∈ stepCosts) : 4 ≤ n ∧ n ≤ 24 := by
  revert n
  decide

/-- A completed step advances the clock by 4 to 24 cycles (60_exceptions R401). -/
theorem step_clock_bounds {s t : State} (h : step s = .next t) (hm : t.mode ≠ .faulted) :
    s.clock + 4 ≤ t.clock ∧ t.clock ≤ s.clock + 24 := by
  obtain ⟨hcost, hclock, -⟩ := (stepCostsAndClock s t h).1 hm
  obtain ⟨hlo, hhi⟩ := stepCosts_bounds hcost
  rw [hclock]
  exact ⟨Nat.add_le_add_left hlo _, Nat.add_le_add_left hhi _⟩

theorem stepFailure_eq_none_iff (s : State) : stepFailure s = none ↔ s.mode ≠ .faulted := by
  simp [stepFailure]

/-- A loop that ends without a failure stops at once, with its budget used up, or makes a completed step first. -/
theorem runUntilLoop_succ_ran {fuel start budget c : Nat} {s t : State}
    (h : runUntilLoop (fuel + 1) start budget s = (t, .ran c)) :
    (budget ≤ s.clock - start ∧ t = s ∧ c = s.clock - start) ∨
    (s.clock - start < budget ∧ ∃ u, step s = .next u ∧ u.mode ≠ .faulted ∧
      runUntilLoop fuel start budget u = (t, .ran c)) := by
  unfold runUntilLoop at h
  split at h
  · next hlt =>
    split at h
    · next u hstep =>
      split at h
      · cases h
      · next hnone => exact .inr ⟨hlt, u, hstep, (stepFailure_eq_none_iff u).1 hnone, h⟩
    · cases h
    · cases h
  · next hge =>
    cases h
    exact .inl ⟨Nat.le_of_not_lt hge, rfl, rfl⟩

/-- From a clock within the bounds, with a pass left for each cycle still to run, the loop ends within the bounds. -/
theorem runUntilLoop_bounds {fuel start budget c : Nat} {s t : State} (hstart : start ≤ s.clock)
    (hover : s.clock ≤ start + budget + 23) (hfuel : start + budget ≤ s.clock + fuel)
    (h : runUntilLoop fuel start budget s = (t, .ran c)) :
    t.clock = start + c ∧ budget ≤ c ∧ c ≤ budget + 23 := by
  induction fuel generalizing s with
  | zero =>
    cases h
    omega
  | succ fuel ih =>
    rcases runUntilLoop_succ_ran h with ⟨hge, rfl, rfl⟩ | ⟨hlt, u, hstep, hm, hloop⟩
    · omega
    · obtain ⟨hlo, hhi⟩ := step_clock_bounds hstep hm
      exact ih (by omega) (by omega) (by omega) hloop

/-! ## The obligations -/

/-- Settles O54: each of the five accepted actions by its effect; the refusals are the failing tests of `envAct` and
`restore`. -/
theorem environmentKeepsItsBounds : Obligations.EnvironmentKeepsItsBounds := by
  refine ⟨fun e s t h => ?_, fun s k i j n v bytes => ⟨rfl, ?_, rfl, rfl, fun hlen => ⟨_, restore_of_length hlen⟩,
    restore_of_length_ne⟩⟩
  · rcases envAct_next_cases h with ⟨k, rfl⟩ | ⟨i, v, hi, rfl⟩ | ⟨j, v, rfl⟩ | ⟨n, v, rfl⟩ | ⟨bytes, hlen, rfl⟩
    · refine ⟨rfl, fun j hj => ?_, fun hs => request_inv hs k⟩
      rw [request_irq, BitVec.getLsbD_or, hj, Bool.true_or]
    · exact ⟨rfl, fun _ hj => hj, fun hs => writeIo_inv hs hi v⟩
    · exact ⟨rfl, fun _ hj => hj, fun hs => writeVram_inv hs j v⟩
    · exact ⟨rfl, fun _ hj => hj, fun hs => writeOam_inv hs n v⟩
    · exact ⟨rfl, fun _ hj => hj, fun hs => restore_inv hs hlen⟩
  · rw [envAct]
    simp only [isPassThrough_iff, ite_not]

/-- Settles O55: the storage filled from the bytes gives them back. -/
theorem restoreReplacesExternalRam : Obligations.RestoreReplacesExternalRam := by
  refine fun s bytes => ⟨⟨length_bytesFrom .., fun k hk => ?_⟩, fun hlen => ?_, restore_of_length_ne⟩
  · exact (getElem?_bytesFrom s.xram 0 hk).trans (by rw [Nat.zero_add])
  · refine ⟨_, restore_of_length hlen, rfl, ?_⟩
    show bytesFrom (Memory.ofBytes 0 bytes) 0 (s.cart.ramBanks * 0x2000) = bytes
    rw [← hlen]
    exact bytesFrom_ofBytes 0 bytes

/-- Settles O56: the loop starts at its own start time with a pass for each cycle of the budget. -/
theorem runUntilMeetsItsBudget : Obligations.RunUntilMeetsItsBudget := by
  refine ⟨fun budget c s t h => runUntilLoop_bounds (Nat.le_refl _) (by omega) (Nat.le_refl _) h, fun s => ?_⟩
  rw [runUntil, runUntilLoop, Nat.sub_self]

end Sys2Proof.Machine
end
